-- ==== Sys2Proof/Word.lean ====
section
/-! DEFINITION. The word types of the CoolRISC 816 and the names of the things an instruction can point at: registers,
index pairs, memory operands, ALU operations and their operand forms, jump conditions and branch targets. -/

namespace Sys2Proof

/-- A data register, a data memory location, an ALU operand (00_scope.md R8). -/
abbrev Byte := BitVec 8

/-- A program or data memory address, a stack level, an index pair (00_scope.md R8). -/
abbrev Word := BitVec 16

/-- An instruction word (30_encoding.md R100). -/
abbrev IWord := BitVec 22

/-- The sixteen 8-bit data registers, in the order of their codes 0 to 15 (10_state.md R20, R21). -/
inductive Reg where
  | i0l | i0h | i1l | i1h | i2l | i2h | i3l | i3h | ipl | iph | stat | r3 | r2 | r1 | r0 | a
  deriving DecidableEq, Repr

/-- The four data memory index pairs (10_state.md R22). -/
inductive Ix where
  | i0 | i1 | i2 | i3
  deriving DecidableEq, Repr

/-- The least significant byte register of a pair (10_state.md R22). -/
def Ix.lo : Ix → Reg
  | .i0 => .i0l | .i1 => .i1l | .i2 => .i2l | .i3 => .i3l

/-- The most significant byte register of a pair (10_state.md R22). -/
def Ix.hi : Ix → Reg
  | .i0 => .i0h | .i1 => .i1h | .i2 => .i2h | .i3 => .i3h

/-- The five hardware addressing modes of data memory (20_memory.md R80 to R84). The field of the pre-decrement mode is
the one in the word, `cpl2_offset:7`. -/
inductive EAddr where
  /-- `addr:8` -/
  | direct (addr : Byte)
  /-- `(ix, offset:8)` -/
  | indexed (ix : Ix) (offset : Byte)
  /-- `(ix, offset:7)+` -/
  | postinc (ix : Ix) (offset : BitVec 7)
  /-- `-(ix, offset:7)` -/
  | predec (ix : Ix) (field : BitVec 7)
  /-- `(ix, r3)` -/
  | r3 (ix : Ix)
  deriving DecidableEq, Repr

/-- The twenty-nine ALU-class operations that share the template of 30_encoding.md R131. -/
inductive AluOp where
  | add | addc | subd | subdc | subs | subsc | inc | incc | dec | decc | cpl2 | cpl2c | cmp | cmpa | mul | mula
  | and | or | xor | cpl1 | tstb | shl | shlc | shr | shrc | shra
  | move | cmvd | cmvs
  deriving DecidableEq, Repr

/-- The operand forms of an ALU-class instruction (30_encoding.md R103 to R108, R130). -/
inductive AluForm where
  /-- formats 1, 2, 5 and 6: op1 is a byte of data memory, `reg` is op2 and the destination -/
  | mem (reg : Reg) (ea : EAddr)
  /-- format 3: op1 is the immediate, `reg` is op2 and the destination -/
  | imm (reg : Reg) (data : Byte)
  /-- format 4 -/
  | regs (res op1 op2 : Reg)
  deriving DecidableEq, Repr

/-- The conditions of `Jcc` (30_encoding.md R114). -/
inductive Cond where
  | cc | vc | zc | always | cs | vs | zs | ev
  deriving DecidableEq, Repr

/-- The target of a jump or call: an immediate address or the value of `ip` (40_branch.md R150). -/
inductive Target where
  | abs (addr : Word)
  | ip
  deriving DecidableEq, Repr

end Sys2Proof
end

