-- ==== Sys2Proof/Syntax.lean ====
section
/-! DEFINITION. The instructions of the CoolRISC 816: one constructor for each row of spec/opcode_table.json, in the
table's order. Operands hold the values the instruction means: `n_data`, `n_addr` and `n_jaddr` fields are given
uninverted (30_encoding.md R117). `field7` of a pre-decrement form is the field of the word, `cpl2_offset:7`. -/

namespace Sys2Proof

/-- The instruction set (30_encoding.md R101, R119; 218 rows). -/
inductive Instr where
  -- ADD (42_arith.md R201)
  | addDirect (reg : Reg) (addr : Byte)
  | addIndexed (reg : Reg) (ix : Ix) (offset8 : Byte)
  | addPostinc (reg : Reg) (ix : Ix) (offset7 : BitVec 7)
  | addPredec (reg : Reg) (ix : Ix) (field7 : BitVec 7)
  | addR3 (reg : Reg) (ix : Ix)
  | addImm (reg : Reg) (data : Byte)
  | addReg3 (regi : Reg) (regj : Reg) (regk : Reg)
  -- ADDC (42_arith.md R202)
  | addcDirect (reg : Reg) (addr : Byte)
  | addcIndexed (reg : Reg) (ix : Ix) (offset8 : Byte)
  | addcPostinc (reg : Reg) (ix : Ix) (offset7 : BitVec 7)
  | addcPredec (reg : Reg) (ix : Ix) (field7 : BitVec 7)
  | addcR3 (reg : Reg) (ix : Ix)
  | addcImm (reg : Reg) (data : Byte)
  | addcReg3 (regi : Reg) (regj : Reg) (regk : Reg)
  -- AND (43_logic_shift.md R240)
  | andDirect (reg : Reg) (addr : Byte)
  | andIndexed (reg : Reg) (ix : Ix) (offset8 : Byte)
  | andPostinc (reg : Reg) (ix : Ix) (offset7 : BitVec 7)
  | andPredec (reg : Reg) (ix : Ix) (field7 : BitVec 7)
  | andR3 (reg : Reg) (ix : Ix)
  | andImm (reg : Reg) (data : Byte)
  | andReg3 (regi : Reg) (regj : Reg) (regk : Reg)
  -- CMP (42_arith.md R213)
  | cmpDirect (reg : Reg) (addr : Byte)
  | cmpIndexed (reg : Reg) (ix : Ix) (offset8 : Byte)
  | cmpPostinc (reg : Reg) (ix : Ix) (offset7 : BitVec 7)
  | cmpPredec (reg : Reg) (ix : Ix) (field7 : BitVec 7)
  | cmpR3 (reg : Reg) (ix : Ix)
  | cmpImm (reg : Reg) (data : Byte)
  | cmpRegs (regd : Reg) (regs : Reg)
  -- CMPA (42_arith.md R214)
  | cmpaDirect (reg : Reg) (addr : Byte)
  | cmpaIndexed (reg : Reg) (ix : Ix) (offset8 : Byte)
  | cmpaPostinc (reg : Reg) (ix : Ix) (offset7 : BitVec 7)
  | cmpaPredec (reg : Reg) (ix : Ix) (field7 : BitVec 7)
  | cmpaR3 (reg : Reg) (ix : Ix)
  | cmpaImm (reg : Reg) (data : Byte)
  | cmpaRegs (regd : Reg) (regs : Reg)
  -- CMVD (41_transfer.md R183)
  | cmvdDirect (reg : Reg) (addr : Byte)
  | cmvdIndexed (reg : Reg) (ix : Ix) (offset8 : Byte)
  | cmvdPostinc (reg : Reg) (ix : Ix) (offset7 : BitVec 7)
  | cmvdPredec (reg : Reg) (ix : Ix) (field7 : BitVec 7)
  | cmvdR3 (reg : Reg) (ix : Ix)
  | cmvdReg2 (regi : Reg) (regj : Reg)
  -- CMVS (41_transfer.md R184)
  | cmvsDirect (reg : Reg) (addr : Byte)
  | cmvsIndexed (reg : Reg) (ix : Ix) (offset8 : Byte)
  | cmvsPostinc (reg : Reg) (ix : Ix) (offset7 : BitVec 7)
  | cmvsPredec (reg : Reg) (ix : Ix) (field7 : BitVec 7)
  | cmvsR3 (reg : Reg) (ix : Ix)
  | cmvsReg2 (regi : Reg) (regj : Reg)
  -- CPL1 (43_logic_shift.md R243)
  | cpl1Direct (reg : Reg) (addr : Byte)
  | cpl1Indexed (reg : Reg) (ix : Ix) (offset8 : Byte)
  | cpl1Postinc (reg : Reg) (ix : Ix) (offset7 : BitVec 7)
  | cpl1Predec (reg : Reg) (ix : Ix) (field7 : BitVec 7)
  | cpl1R3 (reg : Reg) (ix : Ix)
  | cpl1Reg2 (regi : Reg) (regj : Reg)
  -- CPL2 (42_arith.md R211)
  | cpl2Direct (reg : Reg) (addr : Byte)
  | cpl2Indexed (reg : Reg) (ix : Ix) (offset8 : Byte)
  | cpl2Postinc (reg : Reg) (ix : Ix) (offset7 : BitVec 7)
  | cpl2Predec (reg : Reg) (ix : Ix) (field7 : BitVec 7)
  | cpl2R3 (reg : Reg) (ix : Ix)
  | cpl2Reg2 (regi : Reg) (regj : Reg)
  -- CPL2C (42_arith.md R212)
  | cpl2cDirect (reg : Reg) (addr : Byte)
  | cpl2cIndexed (reg : Reg) (ix : Ix) (offset8 : Byte)
  | cpl2cPostinc (reg : Reg) (ix : Ix) (offset7 : BitVec 7)
  | cpl2cPredec (reg : Reg) (ix : Ix) (field7 : BitVec 7)
  | cpl2cR3 (reg : Reg) (ix : Ix)
  | cpl2cReg2 (regi : Reg) (regj : Reg)
  -- DEC (42_arith.md R209)
  | decDirect (reg : Reg) (addr : Byte)
  | decIndexed (reg : Reg) (ix : Ix) (offset8 : Byte)
  | decPostinc (reg : Reg) (ix : Ix) (offset7 : BitVec 7)
  | decPredec (reg : Reg) (ix : Ix) (field7 : BitVec 7)
  | decR3 (reg : Reg) (ix : Ix)
  | decReg2 (regi : Reg) (regj : Reg)
  -- DECC (42_arith.md R210)
  | deccDirect (reg : Reg) (addr : Byte)
  | deccIndexed (reg : Reg) (ix : Ix) (offset8 : Byte)
  | deccPostinc (reg : Reg) (ix : Ix) (offset7 : BitVec 7)
  | deccPredec (reg : Reg) (ix : Ix) (field7 : BitVec 7)
  | deccR3 (reg : Reg) (ix : Ix)
  | deccReg2 (regi : Reg) (regj : Reg)
  -- INC (42_arith.md R207)
  | incDirect (reg : Reg) (addr : Byte)
  | incIndexed (reg : Reg) (ix : Ix) (offset8 : Byte)
  | incPostinc (reg : Reg) (ix : Ix) (offset7 : BitVec 7)
  | incPredec (reg : Reg) (ix : Ix) (field7 : BitVec 7)
  | incR3 (reg : Reg) (ix : Ix)
  | incReg2 (regi : Reg) (regj : Reg)
  -- INCC (42_arith.md R208)
  | inccDirect (reg : Reg) (addr : Byte)
  | inccIndexed (reg : Reg) (ix : Ix) (offset8 : Byte)
  | inccPostinc (reg : Reg) (ix : Ix) (offset7 : BitVec 7)
  | inccPredec (reg : Reg) (ix : Ix) (field7 : BitVec 7)
  | inccR3 (reg : Reg) (ix : Ix)
  | inccReg2 (regi : Reg) (regj : Reg)
  -- MOVE (41_transfer.md R180)
  | moveDirect (reg : Reg) (addr : Byte)
  | moveIndexed (reg : Reg) (ix : Ix) (offset8 : Byte)
  | movePostinc (reg : Reg) (ix : Ix) (offset7 : BitVec 7)
  | movePredec (reg : Reg) (ix : Ix) (field7 : BitVec 7)
  | moveR3 (reg : Reg) (ix : Ix)
  | moveImm (reg : Reg) (data : Byte)
  | moveReg2 (regi : Reg) (regj : Reg)
  -- MOVE (41_transfer.md R181)
  | moveToDirect (reg : Reg) (addr : Byte)
  | moveToIndexed (reg : Reg) (ix : Ix) (offset8 : Byte)
  | moveToPostinc (reg : Reg) (ix : Ix) (offset7 : BitVec 7)
  | moveToPredec (reg : Reg) (ix : Ix) (field7 : BitVec 7)
  | moveToR3 (reg : Reg) (ix : Ix)
  -- MOVE (41_transfer.md R182)
  | moveToDirectImm (addr : Byte) (data : Byte)
  -- MUL (42_arith.md R215)
  | mulDirect (reg : Reg) (addr : Byte)
  | mulIndexed (reg : Reg) (ix : Ix) (offset8 : Byte)
  | mulPostinc (reg : Reg) (ix : Ix) (offset7 : BitVec 7)
  | mulPredec (reg : Reg) (ix : Ix) (field7 : BitVec 7)
  | mulR3 (reg : Reg) (ix : Ix)
  | mulImm (reg : Reg) (data : Byte)
  | mulReg3 (regi : Reg) (regj : Reg) (regk : Reg)
  -- MULA (42_arith.md R216)
  | mulaDirect (reg : Reg) (addr : Byte)
  | mulaIndexed (reg : Reg) (ix : Ix) (offset8 : Byte)
  | mulaPostinc (reg : Reg) (ix : Ix) (offset7 : BitVec 7)
  | mulaPredec (reg : Reg) (ix : Ix) (field7 : BitVec 7)
  | mulaR3 (reg : Reg) (ix : Ix)
  | mulaImm (reg : Reg) (data : Byte)
  | mulaReg3 (regi : Reg) (regj : Reg) (regk : Reg)
  -- OR (43_logic_shift.md R241)
  | orDirect (reg : Reg) (addr : Byte)
  | orIndexed (reg : Reg) (ix : Ix) (offset8 : Byte)
  | orPostinc (reg : Reg) (ix : Ix) (offset7 : BitVec 7)
  | orPredec (reg : Reg) (ix : Ix) (field7 : BitVec 7)
  | orR3 (reg : Reg) (ix : Ix)
  | orImm (reg : Reg) (data : Byte)
  | orReg3 (regi : Reg) (regj : Reg) (regk : Reg)
  -- SHL (43_logic_shift.md R245)
  | shlDirect (reg : Reg) (addr : Byte)
  | shlIndexed (reg : Reg) (ix : Ix) (offset8 : Byte)
  | shlPostinc (reg : Reg) (ix : Ix) (offset7 : BitVec 7)
  | shlPredec (reg : Reg) (ix : Ix) (field7 : BitVec 7)
  | shlR3 (reg : Reg) (ix : Ix)
  | shlReg2 (regi : Reg) (regj : Reg)
  -- SHLC (43_logic_shift.md R246)
  | shlcDirect (reg : Reg) (addr : Byte)
  | shlcIndexed (reg : Reg) (ix : Ix) (offset8 : Byte)
  | shlcPostinc (reg : Reg) (ix : Ix) (offset7 : BitVec 7)
  | shlcPredec (reg : Reg) (ix : Ix) (field7 : BitVec 7)
  | shlcR3 (reg : Reg) (ix : Ix)
  | shlcReg2 (regi : Reg) (regj : Reg)
  -- SHR (43_logic_shift.md R247)
  | shrDirect (reg : Reg) (addr : Byte)
  | shrIndexed (reg : Reg) (ix : Ix) (offset8 : Byte)
  | shrPostinc (reg : Reg) (ix : Ix) (offset7 : BitVec 7)
  | shrPredec (reg : Reg) (ix : Ix) (field7 : BitVec 7)
  | shrR3 (reg : Reg) (ix : Ix)
  | shrReg2 (regi : Reg) (regj : Reg)
  -- SHRA (43_logic_shift.md R249)
  | shraDirect (reg : Reg) (addr : Byte)
  | shraIndexed (reg : Reg) (ix : Ix) (offset8 : Byte)
  | shraPostinc (reg : Reg) (ix : Ix) (offset7 : BitVec 7)
  | shraPredec (reg : Reg) (ix : Ix) (field7 : BitVec 7)
  | shraR3 (reg : Reg) (ix : Ix)
  | shraReg2 (regi : Reg) (regj : Reg)
  -- SHRC (43_logic_shift.md R248)
  | shrcDirect (reg : Reg) (addr : Byte)
  | shrcIndexed (reg : Reg) (ix : Ix) (offset8 : Byte)
  | shrcPostinc (reg : Reg) (ix : Ix) (offset7 : BitVec 7)
  | shrcPredec (reg : Reg) (ix : Ix) (field7 : BitVec 7)
  | shrcR3 (reg : Reg) (ix : Ix)
  | shrcReg2 (regi : Reg) (regj : Reg)
  -- SUBD (42_arith.md R203)
  | subdDirect (reg : Reg) (addr : Byte)
  | subdIndexed (reg : Reg) (ix : Ix) (offset8 : Byte)
  | subdPostinc (reg : Reg) (ix : Ix) (offset7 : BitVec 7)
  | subdPredec (reg : Reg) (ix : Ix) (field7 : BitVec 7)
  | subdR3 (reg : Reg) (ix : Ix)
  | subdImm (reg : Reg) (data : Byte)
  | subdReg3 (regi : Reg) (regj : Reg) (regk : Reg)
  -- SUBDC (42_arith.md R204)
  | subdcDirect (reg : Reg) (addr : Byte)
  | subdcIndexed (reg : Reg) (ix : Ix) (offset8 : Byte)
  | subdcPostinc (reg : Reg) (ix : Ix) (offset7 : BitVec 7)
  | subdcPredec (reg : Reg) (ix : Ix) (field7 : BitVec 7)
  | subdcR3 (reg : Reg) (ix : Ix)
  | subdcImm (reg : Reg) (data : Byte)
  | subdcReg3 (regi : Reg) (regj : Reg) (regk : Reg)
  -- SUBS (42_arith.md R205)
  | subsDirect (reg : Reg) (addr : Byte)
  | subsIndexed (reg : Reg) (ix : Ix) (offset8 : Byte)
  | subsPostinc (reg : Reg) (ix : Ix) (offset7 : BitVec 7)
  | subsPredec (reg : Reg) (ix : Ix) (field7 : BitVec 7)
  | subsR3 (reg : Reg) (ix : Ix)
  | subsImm (reg : Reg) (data : Byte)
  | subsReg3 (regi : Reg) (regj : Reg) (regk : Reg)
  -- SUBSC (42_arith.md R206)
  | subscDirect (reg : Reg) (addr : Byte)
  | subscIndexed (reg : Reg) (ix : Ix) (offset8 : Byte)
  | subscPostinc (reg : Reg) (ix : Ix) (offset7 : BitVec 7)
  | subscPredec (reg : Reg) (ix : Ix) (field7 : BitVec 7)
  | subscR3 (reg : Reg) (ix : Ix)
  | subscImm (reg : Reg) (data : Byte)
  | subscReg3 (regi : Reg) (regj : Reg) (regk : Reg)
  -- XOR (43_logic_shift.md R242)
  | xorDirect (reg : Reg) (addr : Byte)
  | xorIndexed (reg : Reg) (ix : Ix) (offset8 : Byte)
  | xorPostinc (reg : Reg) (ix : Ix) (offset7 : BitVec 7)
  | xorPredec (reg : Reg) (ix : Ix) (field7 : BitVec 7)
  | xorR3 (reg : Reg) (ix : Ix)
  | xorImm (reg : Reg) (data : Byte)
  | xorReg3 (regi : Reg) (regj : Reg) (regk : Reg)
  -- TSTB (43_logic_shift.md R244)
  | tstbImm (reg : Reg) (data : Byte)
  -- JCC (40_branch.md R153)
  | jccAbs (target : Word)
  | jccIp
  -- JVC (40_branch.md R155)
  | jvcAbs (target : Word)
  | jvcIp
  -- JZC (40_branch.md R157)
  | jzcAbs (target : Word)
  | jzcIp
  -- JUMP (40_branch.md R152)
  | jumpAbs (target : Word)
  | jumpIp
  -- JCS (40_branch.md R154)
  | jcsAbs (target : Word)
  | jcsIp
  -- JVS (40_branch.md R156)
  | jvsAbs (target : Word)
  | jvsIp
  -- JZS (40_branch.md R158)
  | jzsAbs (target : Word)
  | jzsIp
  -- JEV (40_branch.md R159)
  | jevAbs (target : Word)
  | jevIp
  -- CALL (40_branch.md R160)
  | callAbs (target : Word)
  | callIp
  -- CALLS (40_branch.md R161)
  | callsAbs (target : Word)
  | callsIp
  -- RET (40_branch.md R162)
  | ret
  -- RETI (40_branch.md R163)
  | reti
  -- POP (40_branch.md R165)
  | pop
  -- PUSH (40_branch.md R164)
  | push
  -- NOP (44_special.md R273)
  | nop
  -- HALT (44_special.md R272)
  | halt
  -- SFLAG (44_special.md R270)
  | sflag
  -- PMD (44_special.md R274)
  | pmd (on : Bool)
  -- FREQ (44_special.md R271)
  | freq (divn : BitVec 4)
  deriving DecidableEq, Repr

end Sys2Proof
end

