-- ==== Sys2Proof/WellFormed.lean ====
section
/-! DEFINITION. Which instructions the spec lets a program use: a `FREQ` ratio that is not reserved (30_encoding.md
R144) and no post- or pre-modified store of a byte of its own index pair (20_memory.md R87). Every other operand value
is legal (30_encoding.md R116). -/

namespace Sys2Proof

/-- The five ratios of 30_encoding.md R115; the others are reserved (R144). -/
def divnDefined (divn : BitVec 4) : Bool :=
  [0b0000#4, 0b1000#4, 0b1100#4, 0b1110#4, 0b1111#4].contains divn

/-- The source of a modified store is no byte of the pair it modifies (20_memory.md R87). -/
def storeSourceFree (reg : Reg) (ix : Ix) : Bool :=
  !(reg == ix.lo) && !(reg == ix.hi)

/-- The two checks; an instruction that neither concerns is well formed. -/
def Instr.wellFormed (i : Instr) : Bool :=
  match i with
  | .freq divn => divnDefined divn
  | .moveToPostinc reg ix _ => storeSourceFree reg ix
  | .moveToPredec reg ix _ => storeSourceFree reg ix
  | _ => true

end Sys2Proof
end

