-- ==== Sys2Proof/Decode.lean ====
section
/-! DEFINITION. From a 22-bit word to an instruction and back: the code tables of 30_encoding.md section 3, the decoder
by the patterns of R102 (total, `none` for every undefined word of R142), and the encoder. -/

namespace Sys2Proof

/-! ## Field codes -/

/-- Register codes (10_state.md R21). -/
def Reg.code : Reg → BitVec 4
  | .i0l => 0b0000#4
  | .i0h => 0b0001#4
  | .i1l => 0b0010#4
  | .i1h => 0b0011#4
  | .i2l => 0b0100#4
  | .i2h => 0b0101#4
  | .i3l => 0b0110#4
  | .i3h => 0b0111#4
  | .ipl => 0b1000#4
  | .iph => 0b1001#4
  | .stat => 0b1010#4
  | .r3 => 0b1011#4
  | .r2 => 0b1100#4
  | .r1 => 0b1101#4
  | .r0 => 0b1110#4
  | .a => 0b1111#4

/-- The register of a code; all sixteen codes name one (30_encoding.md R116). -/
def Reg.ofCode : BitVec 4 → Reg
  | 0b0000#4 => .i0l
  | 0b0001#4 => .i0h
  | 0b0010#4 => .i1l
  | 0b0011#4 => .i1h
  | 0b0100#4 => .i2l
  | 0b0101#4 => .i2h
  | 0b0110#4 => .i3l
  | 0b0111#4 => .i3h
  | 0b1000#4 => .ipl
  | 0b1001#4 => .iph
  | 0b1010#4 => .stat
  | 0b1011#4 => .r3
  | 0b1100#4 => .r2
  | 0b1101#4 => .r1
  | 0b1110#4 => .r0
  | _ => .a

/-- The `ixs` codes (30_encoding.md R116). -/
def Ix.code : Ix → BitVec 2
  | .i0 => 0b00#2
  | .i1 => 0b01#2
  | .i2 => 0b10#2
  | .i3 => 0b11#2

/-- The index pair of an `ixs` code. -/
def Ix.ofCode : BitVec 2 → Ix
  | 0b00#2 => .i0
  | 0b01#2 => .i1
  | 0b10#2 => .i2
  | _ => .i3

/-- `alu_op:5` (30_encoding.md R112). -/
def AluOp.code : AluOp → BitVec 5
  | .cmpa => 0b00000#5
  | .cmp => 0b00001#5
  | .and => 0b00010#5
  | .subs => 0b00011#5
  | .subd => 0b00100#5
  | .subdc => 0b00101#5
  | .mula => 0b00110#5
  | .subsc => 0b00111#5
  | .xor => 0b01000#5
  | .move => 0b01010#5
  | .or => 0b01011#5
  | .add => 0b01100#5
  | .addc => 0b01101#5
  | .mul => 0b01110#5
  | .shra => 0b10000#5
  | .inc => 0b10001#5
  | .cmvd => 0b10010#5
  | .cmvs => 0b10011#5
  | .shrc => 0b10100#5
  | .incc => 0b10101#5
  | .shr => 0b10110#5
  | .cpl1 => 0b11000#5
  | .cpl2 => 0b11001#5
  | .shl => 0b11010#5
  | .dec => 0b11011#5
  | .cpl2c => 0b11100#5
  | .shlc => 0b11110#5
  | .decc => 0b11111#5
  | .tstb => 0b01111#5

/-- The operation of an `alu_op:5` in formats 1, 2, 4, 5 and 6; 01001, 01111, 10111 and 11101 name none (R112, R143). -/
def AluOp.ofCode : BitVec 5 → Option AluOp
  | 0b00000#5 => some .cmpa
  | 0b00001#5 => some .cmp
  | 0b00010#5 => some .and
  | 0b00011#5 => some .subs
  | 0b00100#5 => some .subd
  | 0b00101#5 => some .subdc
  | 0b00110#5 => some .mula
  | 0b00111#5 => some .subsc
  | 0b01000#5 => some .xor
  | 0b01010#5 => some .move
  | 0b01011#5 => some .or
  | 0b01100#5 => some .add
  | 0b01101#5 => some .addc
  | 0b01110#5 => some .mul
  | 0b10000#5 => some .shra
  | 0b10001#5 => some .inc
  | 0b10010#5 => some .cmvd
  | 0b10011#5 => some .cmvs
  | 0b10100#5 => some .shrc
  | 0b10101#5 => some .incc
  | 0b10110#5 => some .shr
  | 0b11000#5 => some .cpl1
  | 0b11001#5 => some .cpl2
  | 0b11010#5 => some .shl
  | 0b11011#5 => some .dec
  | 0b11100#5 => some .cpl2c
  | 0b11110#5 => some .shlc
  | 0b11111#5 => some .decc
  | _ => none

/-- The operation of an `alu_op:4` in format 3; 1001 names none (R113). -/
def AluOp.ofImmediateCode : BitVec 4 → Option AluOp
  | 0b0000#4 => some .cmpa
  | 0b0001#4 => some .cmp
  | 0b0010#4 => some .and
  | 0b0011#4 => some .subs
  | 0b0100#4 => some .subd
  | 0b0101#4 => some .subdc
  | 0b0110#4 => some .mula
  | 0b0111#4 => some .subsc
  | 0b1000#4 => some .xor
  | 0b1010#4 => some .move
  | 0b1011#4 => some .or
  | 0b1100#4 => some .add
  | 0b1101#4 => some .addc
  | 0b1110#4 => some .mul
  | 0b1111#4 => some .tstb
  | _ => none

/-- The `cc:3` codes (30_encoding.md R114). -/
def Cond.code : Cond → BitVec 3
  | .cc => 0b000#3
  | .vc => 0b001#3
  | .zc => 0b010#3
  | .always => 0b011#3
  | .cs => 0b100#3
  | .vs => 0b101#3
  | .zs => 0b110#3
  | .ev => 0b111#3

/-- The condition of a `cc:3` code. -/
def Cond.ofCode : BitVec 3 → Cond
  | 0b000#3 => .cc
  | 0b001#3 => .vc
  | 0b010#3 => .zc
  | 0b011#3 => .always
  | 0b100#3 => .cs
  | 0b101#3 => .vs
  | 0b110#3 => .zs
  | _ => .ev

/-- The one-source operations whose register form has bits 11 to 8 fixed to 1111 (30_encoding.md R120). -/
def AluOp.fixedOnes : AluOp → Bool
  | .move | .cmvd | .cmvs | .cpl1 | .cpl2 | .cpl2c | .dec | .decc | .inc | .incc => true
  | .add | .addc | .subd | .subdc | .subs | .subsc | .cmp | .cmpa | .mul | .mula | .and | .or | .xor
  | .tstb | .shl | .shlc | .shr | .shrc | .shra => false

/-! ## From an operation and its operands to the instruction -/

/-- One of the five memory forms. -/
def memForm (direct : Reg → Byte → Instr) (indexed : Reg → Ix → Byte → Instr)
    (postinc predec : Reg → Ix → BitVec 7 → Instr) (r3 : Reg → Ix → Instr) (reg : Reg) : EAddr → Instr
  | .direct addr => direct reg addr
  | .indexed ix offset => indexed reg ix offset
  | .postinc ix offset => postinc reg ix offset
  | .predec ix field => predec reg ix field
  | .r3 ix => r3 reg ix

/-- The forms of an operation that has an immediate form (30_encoding.md R119). -/
def sevenForms (direct : Reg → Byte → Instr) (indexed : Reg → Ix → Byte → Instr)
    (postinc predec : Reg → Ix → BitVec 7 → Instr) (r3 : Reg → Ix → Instr) (imm : Reg → Byte → Instr)
    (regs : Reg → Reg → Reg → Instr) : AluForm → Option Instr
  | .mem reg ea => some (memForm direct indexed postinc predec r3 reg ea)
  | .imm reg data => some (imm reg data)
  | .regs res op1 op2 => some (regs res op1 op2)

/-- The forms of a one-source operation, which has no immediate form (30_encoding.md R119). -/
def sixForms (direct : Reg → Byte → Instr) (indexed : Reg → Ix → Byte → Instr)
    (postinc predec : Reg → Ix → BitVec 7 → Instr) (r3 : Reg → Ix → Instr) (regs : Reg → Reg → Instr) :
    AluForm → Option Instr
  | .mem reg ea => some (memForm direct indexed postinc predec r3 reg ea)
  | .imm _ _ => none
  | .regs res op1 _ => some (regs res op1)

/-- The ALU-class instruction with this operation and these operands, if the operation has the form (30_encoding.md
R119). A one-source operation ignores op2 and a compare names no destination (R120). -/
def Instr.ofAlu (op : AluOp) (f : AluForm) : Option Instr :=
  match op with
  | .add => sevenForms .addDirect .addIndexed .addPostinc .addPredec .addR3
      .addImm .addReg3 f
  | .addc => sevenForms .addcDirect .addcIndexed .addcPostinc .addcPredec .addcR3
      .addcImm .addcReg3 f
  | .and => sevenForms .andDirect .andIndexed .andPostinc .andPredec .andR3
      .andImm .andReg3 f
  | .cmp => sevenForms .cmpDirect .cmpIndexed .cmpPostinc .cmpPredec .cmpR3
      .cmpImm (fun _ op1 op2 => .cmpRegs op2 op1) f
  | .cmpa => sevenForms .cmpaDirect .cmpaIndexed .cmpaPostinc .cmpaPredec .cmpaR3
      .cmpaImm (fun _ op1 op2 => .cmpaRegs op2 op1) f
  | .cmvd => sixForms .cmvdDirect .cmvdIndexed .cmvdPostinc .cmvdPredec .cmvdR3
      .cmvdReg2 f
  | .cmvs => sixForms .cmvsDirect .cmvsIndexed .cmvsPostinc .cmvsPredec .cmvsR3
      .cmvsReg2 f
  | .cpl1 => sixForms .cpl1Direct .cpl1Indexed .cpl1Postinc .cpl1Predec .cpl1R3
      .cpl1Reg2 f
  | .cpl2 => sixForms .cpl2Direct .cpl2Indexed .cpl2Postinc .cpl2Predec .cpl2R3
      .cpl2Reg2 f
  | .cpl2c => sixForms .cpl2cDirect .cpl2cIndexed .cpl2cPostinc .cpl2cPredec .cpl2cR3
      .cpl2cReg2 f
  | .dec => sixForms .decDirect .decIndexed .decPostinc .decPredec .decR3
      .decReg2 f
  | .decc => sixForms .deccDirect .deccIndexed .deccPostinc .deccPredec .deccR3
      .deccReg2 f
  | .inc => sixForms .incDirect .incIndexed .incPostinc .incPredec .incR3
      .incReg2 f
  | .incc => sixForms .inccDirect .inccIndexed .inccPostinc .inccPredec .inccR3
      .inccReg2 f
  | .move => sevenForms .moveDirect .moveIndexed .movePostinc .movePredec .moveR3
      .moveImm (fun res op1 _ => .moveReg2 res op1) f
  | .mul => sevenForms .mulDirect .mulIndexed .mulPostinc .mulPredec .mulR3
      .mulImm .mulReg3 f
  | .mula => sevenForms .mulaDirect .mulaIndexed .mulaPostinc .mulaPredec .mulaR3
      .mulaImm .mulaReg3 f
  | .or => sevenForms .orDirect .orIndexed .orPostinc .orPredec .orR3
      .orImm .orReg3 f
  | .shl => sixForms .shlDirect .shlIndexed .shlPostinc .shlPredec .shlR3
      .shlReg2 f
  | .shlc => sixForms .shlcDirect .shlcIndexed .shlcPostinc .shlcPredec .shlcR3
      .shlcReg2 f
  | .shr => sixForms .shrDirect .shrIndexed .shrPostinc .shrPredec .shrR3
      .shrReg2 f
  | .shra => sixForms .shraDirect .shraIndexed .shraPostinc .shraPredec .shraR3
      .shraReg2 f
  | .shrc => sixForms .shrcDirect .shrcIndexed .shrcPostinc .shrcPredec .shrcR3
      .shrcReg2 f
  | .subd => sevenForms .subdDirect .subdIndexed .subdPostinc .subdPredec .subdR3
      .subdImm .subdReg3 f
  | .subdc => sevenForms .subdcDirect .subdcIndexed .subdcPostinc .subdcPredec .subdcR3
      .subdcImm .subdcReg3 f
  | .subs => sevenForms .subsDirect .subsIndexed .subsPostinc .subsPredec .subsR3
      .subsImm .subsReg3 f
  | .subsc => sevenForms .subscDirect .subscIndexed .subscPostinc .subscPredec .subscR3
      .subscImm .subscReg3 f
  | .xor => sevenForms .xorDirect .xorIndexed .xorPostinc .xorPredec .xorR3
      .xorImm .xorReg3 f
  | .tstb => match f with
    | .imm reg data => some (.tstbImm reg data)
    | .mem _ _ => none
    | .regs _ _ _ => none

/-- The conditional jump with this condition and target (30_encoding.md R111, R114). -/
def Instr.jcc : Cond → Target → Instr
  | .always, .abs target => .jumpAbs target
  | .always, .ip => .jumpIp
  | .cc, .abs target => .jccAbs target
  | .cc, .ip => .jccIp
  | .cs, .abs target => .jcsAbs target
  | .cs, .ip => .jcsIp
  | .vc, .abs target => .jvcAbs target
  | .vc, .ip => .jvcIp
  | .vs, .abs target => .jvsAbs target
  | .vs, .ip => .jvsIp
  | .zc, .abs target => .jzcAbs target
  | .zc, .ip => .jzcIp
  | .zs, .abs target => .jzsAbs target
  | .zs, .ip => .jzsIp
  | .ev, .abs target => .jevAbs target
  | .ev, .ip => .jevIp

/-- `CALL` with this target (40_branch.md R160). -/
def Instr.call : Target → Instr
  | .abs target => .callAbs target
  | .ip => .callIp

/-- `CALLS` with this target (40_branch.md R161). -/
def Instr.calls : Target → Instr
  | .abs target => .callsAbs target
  | .ip => .callsIp

/-- `MOVE` of a register to this memory operand (41_transfer.md R181). -/
def Instr.store : Reg → EAddr → Instr :=
  memForm .moveToDirect .moveToIndexed .moveToPostinc .moveToPredec .moveToR3

/-! ## The decoder -/

/-- The `n` bits of a word from bit `lo` up. -/
def bitsAt (w : IWord) (lo n : Nat) : BitVec n := w.extractLsb' lo n

/-- The pre- or post-modified operand of formats 2 and 8: bit 7 is `P` (30_encoding.md R104). -/
def modifiedOperand (ix : Ix) (w : IWord) : EAddr :=
  match bitsAt w 7 1 with
  | 0b0#1 => .postinc ix (bitsAt w 0 7)
  | _ => .predec ix (bitsAt w 0 7)

/-- Formats 1, 2, 5 and 6 once the memory operand is known: bits 16 to 12 and 11 to 8. -/
def decodeMemory (w : IWord) (ea : EAddr) : Option Instr :=
  match AluOp.ofCode (bitsAt w 12 5) with
  | some op => Instr.ofAlu op (.mem (Reg.ofCode (bitsAt w 8 4)) ea)
  | none => none

/-- Format 3 (30_encoding.md R105). -/
def decodeImmediate (w : IWord) : Option Instr :=
  match AluOp.ofImmediateCode (bitsAt w 12 4) with
  | some op => Instr.ofAlu op (.imm (Reg.ofCode (bitsAt w 8 4)) (~~~(bitsAt w 0 8)))
  | none => none

/-- Format 4 (30_encoding.md R106, R120): bits 11 to 8 must be ones for `MOVE` and the one-source operations that are
no shifts. -/
def decodeRegisters (w : IWord) : Option Instr :=
  match AluOp.ofCode (bitsAt w 12 5) with
  | some op =>
    if op.fixedOnes && bitsAt w 8 4 != 0b1111#4 then none
    else Instr.ofAlu op
      (.regs (Reg.ofCode (bitsAt w 0 4)) (Reg.ofCode (bitsAt w 4 4)) (Reg.ofCode (bitsAt w 8 4)))
  | none => none

/-- Prefix 00101: `SFLAG`, `FREQ`, `HALT`, `PMD` (30_encoding.md R109). -/
def decodeSpecial (w : IWord) : Option Instr :=
  match bitsAt w 12 5 with
  | 0b10111#5 => if bitsAt w 0 12 = 0xFFF#12 then some .sflag else none
  | 0b11011#5 => if bitsAt w 4 8 = 0xFF#8 then some (.freq (bitsAt w 0 4)) else none
  | 0b11101#5 => if bitsAt w 0 12 = 0xFFF#12 then some .halt else none
  | 0b11110#5 =>
    if bitsAt w 9 3 = 0b111#3 ∧ bitsAt w 0 8 = 0xFF#8 then some (.pmd (w.getLsbD 8)) else none
  | _ => none

/-- Prefix 0000: the stores, formats 7 to 11 (30_encoding.md R110). -/
def decodeStore (w : IWord) : Option Instr :=
  let source := Reg.ofCode (bitsAt w 8 4)
  let ix := Ix.ofCode (bitsAt w 12 2)
  match bitsAt w 16 2 with
  | 0b00#2 => some (.moveToDirectImm (~~~(bitsAt w 0 8)) (~~~(bitsAt w 8 8)))
  | 0b01#2 =>
    if bitsAt w 12 4 = 0b1011#4 then some (.store source (.direct (~~~(bitsAt w 0 8)))) else none
  | _ =>
    match bitsAt w 14 3 with
    | 0b011#3 => some (.store source (.indexed ix (bitsAt w 0 8)))
    | 0b101#3 => some (.store source (modifiedOperand ix w))
    | 0b110#3 => if bitsAt w 0 8 = 0xFF#8 then some (.store source (.r3 ix)) else none
    | _ => none

/-- Prefix 000: format 5, format 6 and the stores. -/
def decode000 (w : IWord) : Option Instr :=
  match bitsAt w 17 2 with
  | 0b11#2 =>
    if bitsAt w 2 6 = 0b111111#6 then decodeMemory w (.r3 (Ix.ofCode (bitsAt w 0 2))) else none
  | 0b10#2 => decodeMemory w (.direct (~~~(bitsAt w 0 8)))
  | _ => decodeStore w

/-- Prefix 001: format 3, format 4 and the special instructions. -/
def decode001 (w : IWord) : Option Instr :=
  match bitsAt w 17 2 with
  | 0b11#2 => if bitsAt w 16 1 = 0b0#1 then decodeImmediate w else none
  | 0b10#2 => decodeRegisters w
  | 0b01#2 => decodeSpecial w
  | _ => none

/-- Prefix 101: `PUSH`, `CALL ip`, `CALLS ip` (30_encoding.md R111). -/
def decode101 (w : IWord) : Option Instr :=
  if bitsAt w 0 16 = 0xFFFF#16 then
    match bitsAt w 16 3 with
    | 0b001#3 => some (.call .ip)
    | 0b010#3 => some (.calls .ip)
    | 0b101#3 => some .push
    | _ => none
  else none

/-- Prefix 111: `CALL`, `CALLS` and the four exact words (30_encoding.md R111). -/
def decode111 (w : IWord) : Option Instr :=
  match bitsAt w 16 3 with
  | 0b001#3 => some (.call (.abs (~~~(bitsAt w 0 16))))
  | 0b010#3 => some (.calls (.abs (~~~(bitsAt w 0 16))))
  | _ =>
    if w = 0x3FFFFF#22 then some .nop
    else if w = 0x3F3FFF#22 then some .ret
    else if w = 0x3F1FFF#22 then some .reti
    else if w = 0x3EBFFF#22 then some .pop
    else none

/-- The decoding table of 30_encoding.md R102; `none` is an undefined word (R142). -/
def decode (w : IWord) : Option Instr :=
  match bitsAt w 19 3 with
  | 0b000#3 => decode000 w
  | 0b001#3 => decode001 w
  | 0b010#3 => decodeMemory w (modifiedOperand (Ix.ofCode (bitsAt w 17 2)) w)
  | 0b011#3 => decodeMemory w (.indexed (Ix.ofCode (bitsAt w 17 2)) (bitsAt w 0 8))
  | 0b100#3 =>
    if bitsAt w 0 16 = 0xFFFF#16 then some (.jcc (Cond.ofCode (bitsAt w 16 3)) .ip) else none
  | 0b101#3 => decode101 w
  | 0b110#3 => some (.jcc (Cond.ofCode (bitsAt w 16 3)) (.abs (~~~(bitsAt w 0 16))))
  | _ => decode111 w

/-- What the decoder reads from an instruction whose bits are `w`, numbered as spec/opcode_table.json numbers them: one
22-bit word, so a number of 2^22 or more is no instruction. -/
def decodeTableWord (_nbits w : Nat) : Option Instr :=
  if w < 2 ^ 22 then decode (BitVec.ofNat 22 w) else none

/-! ## The encoder -/

/-- Formats 1 to 6 (30_encoding.md R103 to R108). -/
def encodeAlu (op : AluOp) : AluForm → IWord
  | .mem reg (.direct addr) => 0b00010#5 ++ op.code ++ reg.code ++ ~~~addr
  | .mem reg (.indexed ix offset) => 0b011#3 ++ ix.code ++ op.code ++ reg.code ++ offset
  | .mem reg (.postinc ix offset) => 0b010#3 ++ ix.code ++ op.code ++ reg.code ++ 0b0#1 ++ offset
  | .mem reg (.predec ix field) => 0b010#3 ++ ix.code ++ op.code ++ reg.code ++ 0b1#1 ++ field
  | .mem reg (.r3 ix) => 0b00011#5 ++ op.code ++ reg.code ++ 0b111111#6 ++ ix.code
  | .imm reg data => 0b001110#6 ++ op.code.extractLsb' 0 4 ++ reg.code ++ ~~~data
  | .regs res op1 op2 => 0b00110#5 ++ op.code ++ op2.code ++ op1.code ++ res.code

/-- Formats 7 to 10 (30_encoding.md R110). -/
def encodeStore (reg : Reg) : EAddr → IWord
  | .direct addr => 0b0000011011#10 ++ reg.code ++ ~~~addr
  | .indexed ix offset => 0b00001011#8 ++ ix.code ++ reg.code ++ offset
  | .postinc ix offset => 0b00001101#8 ++ ix.code ++ reg.code ++ 0b0#1 ++ offset
  | .predec ix field => 0b00001101#8 ++ ix.code ++ reg.code ++ 0b1#1 ++ field
  | .r3 ix => 0b00001110#8 ++ ix.code ++ reg.code ++ 0xFF#8

/-- The two formats of `Jcc` (30_encoding.md R111). -/
def encodeJcc (c : Cond) : Target → IWord
  | .abs target => 0b110#3 ++ c.code ++ ~~~target
  | .ip => 0b100#3 ++ c.code ++ 0xFFFF#16

/-- The word of an instruction, unused register fields as the canonical encoding has them (30_encoding.md R120). -/
def encode (i : Instr) : IWord :=
  match i with
  | .addDirect reg addr => encodeAlu .add (.mem reg (.direct addr))
  | .addIndexed reg ix offset8 => encodeAlu .add (.mem reg (.indexed ix offset8))
  | .addPostinc reg ix offset7 => encodeAlu .add (.mem reg (.postinc ix offset7))
  | .addPredec reg ix field7 => encodeAlu .add (.mem reg (.predec ix field7))
  | .addR3 reg ix => encodeAlu .add (.mem reg (.r3 ix))
  | .addImm reg data => encodeAlu .add (.imm reg data)
  | .addReg3 regi regj regk => encodeAlu .add (.regs regi regj regk)
  | .addcDirect reg addr => encodeAlu .addc (.mem reg (.direct addr))
  | .addcIndexed reg ix offset8 => encodeAlu .addc (.mem reg (.indexed ix offset8))
  | .addcPostinc reg ix offset7 => encodeAlu .addc (.mem reg (.postinc ix offset7))
  | .addcPredec reg ix field7 => encodeAlu .addc (.mem reg (.predec ix field7))
  | .addcR3 reg ix => encodeAlu .addc (.mem reg (.r3 ix))
  | .addcImm reg data => encodeAlu .addc (.imm reg data)
  | .addcReg3 regi regj regk => encodeAlu .addc (.regs regi regj regk)
  | .andDirect reg addr => encodeAlu .and (.mem reg (.direct addr))
  | .andIndexed reg ix offset8 => encodeAlu .and (.mem reg (.indexed ix offset8))
  | .andPostinc reg ix offset7 => encodeAlu .and (.mem reg (.postinc ix offset7))
  | .andPredec reg ix field7 => encodeAlu .and (.mem reg (.predec ix field7))
  | .andR3 reg ix => encodeAlu .and (.mem reg (.r3 ix))
  | .andImm reg data => encodeAlu .and (.imm reg data)
  | .andReg3 regi regj regk => encodeAlu .and (.regs regi regj regk)
  | .cmpDirect reg addr => encodeAlu .cmp (.mem reg (.direct addr))
  | .cmpIndexed reg ix offset8 => encodeAlu .cmp (.mem reg (.indexed ix offset8))
  | .cmpPostinc reg ix offset7 => encodeAlu .cmp (.mem reg (.postinc ix offset7))
  | .cmpPredec reg ix field7 => encodeAlu .cmp (.mem reg (.predec ix field7))
  | .cmpR3 reg ix => encodeAlu .cmp (.mem reg (.r3 ix))
  | .cmpImm reg data => encodeAlu .cmp (.imm reg data)
  | .cmpRegs regd regs => encodeAlu .cmp (.regs regd regs regd)
  | .cmpaDirect reg addr => encodeAlu .cmpa (.mem reg (.direct addr))
  | .cmpaIndexed reg ix offset8 => encodeAlu .cmpa (.mem reg (.indexed ix offset8))
  | .cmpaPostinc reg ix offset7 => encodeAlu .cmpa (.mem reg (.postinc ix offset7))
  | .cmpaPredec reg ix field7 => encodeAlu .cmpa (.mem reg (.predec ix field7))
  | .cmpaR3 reg ix => encodeAlu .cmpa (.mem reg (.r3 ix))
  | .cmpaImm reg data => encodeAlu .cmpa (.imm reg data)
  | .cmpaRegs regd regs => encodeAlu .cmpa (.regs regd regs regd)
  | .cmvdDirect reg addr => encodeAlu .cmvd (.mem reg (.direct addr))
  | .cmvdIndexed reg ix offset8 => encodeAlu .cmvd (.mem reg (.indexed ix offset8))
  | .cmvdPostinc reg ix offset7 => encodeAlu .cmvd (.mem reg (.postinc ix offset7))
  | .cmvdPredec reg ix field7 => encodeAlu .cmvd (.mem reg (.predec ix field7))
  | .cmvdR3 reg ix => encodeAlu .cmvd (.mem reg (.r3 ix))
  | .cmvdReg2 regi regj => encodeAlu .cmvd (.regs regi regj .a)
  | .cmvsDirect reg addr => encodeAlu .cmvs (.mem reg (.direct addr))
  | .cmvsIndexed reg ix offset8 => encodeAlu .cmvs (.mem reg (.indexed ix offset8))
  | .cmvsPostinc reg ix offset7 => encodeAlu .cmvs (.mem reg (.postinc ix offset7))
  | .cmvsPredec reg ix field7 => encodeAlu .cmvs (.mem reg (.predec ix field7))
  | .cmvsR3 reg ix => encodeAlu .cmvs (.mem reg (.r3 ix))
  | .cmvsReg2 regi regj => encodeAlu .cmvs (.regs regi regj .a)
  | .cpl1Direct reg addr => encodeAlu .cpl1 (.mem reg (.direct addr))
  | .cpl1Indexed reg ix offset8 => encodeAlu .cpl1 (.mem reg (.indexed ix offset8))
  | .cpl1Postinc reg ix offset7 => encodeAlu .cpl1 (.mem reg (.postinc ix offset7))
  | .cpl1Predec reg ix field7 => encodeAlu .cpl1 (.mem reg (.predec ix field7))
  | .cpl1R3 reg ix => encodeAlu .cpl1 (.mem reg (.r3 ix))
  | .cpl1Reg2 regi regj => encodeAlu .cpl1 (.regs regi regj .a)
  | .cpl2Direct reg addr => encodeAlu .cpl2 (.mem reg (.direct addr))
  | .cpl2Indexed reg ix offset8 => encodeAlu .cpl2 (.mem reg (.indexed ix offset8))
  | .cpl2Postinc reg ix offset7 => encodeAlu .cpl2 (.mem reg (.postinc ix offset7))
  | .cpl2Predec reg ix field7 => encodeAlu .cpl2 (.mem reg (.predec ix field7))
  | .cpl2R3 reg ix => encodeAlu .cpl2 (.mem reg (.r3 ix))
  | .cpl2Reg2 regi regj => encodeAlu .cpl2 (.regs regi regj .a)
  | .cpl2cDirect reg addr => encodeAlu .cpl2c (.mem reg (.direct addr))
  | .cpl2cIndexed reg ix offset8 => encodeAlu .cpl2c (.mem reg (.indexed ix offset8))
  | .cpl2cPostinc reg ix offset7 => encodeAlu .cpl2c (.mem reg (.postinc ix offset7))
  | .cpl2cPredec reg ix field7 => encodeAlu .cpl2c (.mem reg (.predec ix field7))
  | .cpl2cR3 reg ix => encodeAlu .cpl2c (.mem reg (.r3 ix))
  | .cpl2cReg2 regi regj => encodeAlu .cpl2c (.regs regi regj .a)
  | .decDirect reg addr => encodeAlu .dec (.mem reg (.direct addr))
  | .decIndexed reg ix offset8 => encodeAlu .dec (.mem reg (.indexed ix offset8))
  | .decPostinc reg ix offset7 => encodeAlu .dec (.mem reg (.postinc ix offset7))
  | .decPredec reg ix field7 => encodeAlu .dec (.mem reg (.predec ix field7))
  | .decR3 reg ix => encodeAlu .dec (.mem reg (.r3 ix))
  | .decReg2 regi regj => encodeAlu .dec (.regs regi regj .a)
  | .deccDirect reg addr => encodeAlu .decc (.mem reg (.direct addr))
  | .deccIndexed reg ix offset8 => encodeAlu .decc (.mem reg (.indexed ix offset8))
  | .deccPostinc reg ix offset7 => encodeAlu .decc (.mem reg (.postinc ix offset7))
  | .deccPredec reg ix field7 => encodeAlu .decc (.mem reg (.predec ix field7))
  | .deccR3 reg ix => encodeAlu .decc (.mem reg (.r3 ix))
  | .deccReg2 regi regj => encodeAlu .decc (.regs regi regj .a)
  | .incDirect reg addr => encodeAlu .inc (.mem reg (.direct addr))
  | .incIndexed reg ix offset8 => encodeAlu .inc (.mem reg (.indexed ix offset8))
  | .incPostinc reg ix offset7 => encodeAlu .inc (.mem reg (.postinc ix offset7))
  | .incPredec reg ix field7 => encodeAlu .inc (.mem reg (.predec ix field7))
  | .incR3 reg ix => encodeAlu .inc (.mem reg (.r3 ix))
  | .incReg2 regi regj => encodeAlu .inc (.regs regi regj .a)
  | .inccDirect reg addr => encodeAlu .incc (.mem reg (.direct addr))
  | .inccIndexed reg ix offset8 => encodeAlu .incc (.mem reg (.indexed ix offset8))
  | .inccPostinc reg ix offset7 => encodeAlu .incc (.mem reg (.postinc ix offset7))
  | .inccPredec reg ix field7 => encodeAlu .incc (.mem reg (.predec ix field7))
  | .inccR3 reg ix => encodeAlu .incc (.mem reg (.r3 ix))
  | .inccReg2 regi regj => encodeAlu .incc (.regs regi regj .a)
  | .moveDirect reg addr => encodeAlu .move (.mem reg (.direct addr))
  | .moveIndexed reg ix offset8 => encodeAlu .move (.mem reg (.indexed ix offset8))
  | .movePostinc reg ix offset7 => encodeAlu .move (.mem reg (.postinc ix offset7))
  | .movePredec reg ix field7 => encodeAlu .move (.mem reg (.predec ix field7))
  | .moveR3 reg ix => encodeAlu .move (.mem reg (.r3 ix))
  | .moveImm reg data => encodeAlu .move (.imm reg data)
  | .moveReg2 regi regj => encodeAlu .move (.regs regi regj .a)
  | .moveToDirect reg addr => encodeStore reg (.direct addr)
  | .moveToIndexed reg ix offset8 => encodeStore reg (.indexed ix offset8)
  | .moveToPostinc reg ix offset7 => encodeStore reg (.postinc ix offset7)
  | .moveToPredec reg ix field7 => encodeStore reg (.predec ix field7)
  | .moveToR3 reg ix => encodeStore reg (.r3 ix)
  | .moveToDirectImm addr data => 0b000000#6 ++ ~~~data ++ ~~~addr
  | .mulDirect reg addr => encodeAlu .mul (.mem reg (.direct addr))
  | .mulIndexed reg ix offset8 => encodeAlu .mul (.mem reg (.indexed ix offset8))
  | .mulPostinc reg ix offset7 => encodeAlu .mul (.mem reg (.postinc ix offset7))
  | .mulPredec reg ix field7 => encodeAlu .mul (.mem reg (.predec ix field7))
  | .mulR3 reg ix => encodeAlu .mul (.mem reg (.r3 ix))
  | .mulImm reg data => encodeAlu .mul (.imm reg data)
  | .mulReg3 regi regj regk => encodeAlu .mul (.regs regi regj regk)
  | .mulaDirect reg addr => encodeAlu .mula (.mem reg (.direct addr))
  | .mulaIndexed reg ix offset8 => encodeAlu .mula (.mem reg (.indexed ix offset8))
  | .mulaPostinc reg ix offset7 => encodeAlu .mula (.mem reg (.postinc ix offset7))
  | .mulaPredec reg ix field7 => encodeAlu .mula (.mem reg (.predec ix field7))
  | .mulaR3 reg ix => encodeAlu .mula (.mem reg (.r3 ix))
  | .mulaImm reg data => encodeAlu .mula (.imm reg data)
  | .mulaReg3 regi regj regk => encodeAlu .mula (.regs regi regj regk)
  | .orDirect reg addr => encodeAlu .or (.mem reg (.direct addr))
  | .orIndexed reg ix offset8 => encodeAlu .or (.mem reg (.indexed ix offset8))
  | .orPostinc reg ix offset7 => encodeAlu .or (.mem reg (.postinc ix offset7))
  | .orPredec reg ix field7 => encodeAlu .or (.mem reg (.predec ix field7))
  | .orR3 reg ix => encodeAlu .or (.mem reg (.r3 ix))
  | .orImm reg data => encodeAlu .or (.imm reg data)
  | .orReg3 regi regj regk => encodeAlu .or (.regs regi regj regk)
  | .shlDirect reg addr => encodeAlu .shl (.mem reg (.direct addr))
  | .shlIndexed reg ix offset8 => encodeAlu .shl (.mem reg (.indexed ix offset8))
  | .shlPostinc reg ix offset7 => encodeAlu .shl (.mem reg (.postinc ix offset7))
  | .shlPredec reg ix field7 => encodeAlu .shl (.mem reg (.predec ix field7))
  | .shlR3 reg ix => encodeAlu .shl (.mem reg (.r3 ix))
  | .shlReg2 regi regj => encodeAlu .shl (.regs regi regj .a)
  | .shlcDirect reg addr => encodeAlu .shlc (.mem reg (.direct addr))
  | .shlcIndexed reg ix offset8 => encodeAlu .shlc (.mem reg (.indexed ix offset8))
  | .shlcPostinc reg ix offset7 => encodeAlu .shlc (.mem reg (.postinc ix offset7))
  | .shlcPredec reg ix field7 => encodeAlu .shlc (.mem reg (.predec ix field7))
  | .shlcR3 reg ix => encodeAlu .shlc (.mem reg (.r3 ix))
  | .shlcReg2 regi regj => encodeAlu .shlc (.regs regi regj .a)
  | .shrDirect reg addr => encodeAlu .shr (.mem reg (.direct addr))
  | .shrIndexed reg ix offset8 => encodeAlu .shr (.mem reg (.indexed ix offset8))
  | .shrPostinc reg ix offset7 => encodeAlu .shr (.mem reg (.postinc ix offset7))
  | .shrPredec reg ix field7 => encodeAlu .shr (.mem reg (.predec ix field7))
  | .shrR3 reg ix => encodeAlu .shr (.mem reg (.r3 ix))
  | .shrReg2 regi regj => encodeAlu .shr (.regs regi regj .a)
  | .shraDirect reg addr => encodeAlu .shra (.mem reg (.direct addr))
  | .shraIndexed reg ix offset8 => encodeAlu .shra (.mem reg (.indexed ix offset8))
  | .shraPostinc reg ix offset7 => encodeAlu .shra (.mem reg (.postinc ix offset7))
  | .shraPredec reg ix field7 => encodeAlu .shra (.mem reg (.predec ix field7))
  | .shraR3 reg ix => encodeAlu .shra (.mem reg (.r3 ix))
  | .shraReg2 regi regj => encodeAlu .shra (.regs regi regj .a)
  | .shrcDirect reg addr => encodeAlu .shrc (.mem reg (.direct addr))
  | .shrcIndexed reg ix offset8 => encodeAlu .shrc (.mem reg (.indexed ix offset8))
  | .shrcPostinc reg ix offset7 => encodeAlu .shrc (.mem reg (.postinc ix offset7))
  | .shrcPredec reg ix field7 => encodeAlu .shrc (.mem reg (.predec ix field7))
  | .shrcR3 reg ix => encodeAlu .shrc (.mem reg (.r3 ix))
  | .shrcReg2 regi regj => encodeAlu .shrc (.regs regi regj .a)
  | .subdDirect reg addr => encodeAlu .subd (.mem reg (.direct addr))
  | .subdIndexed reg ix offset8 => encodeAlu .subd (.mem reg (.indexed ix offset8))
  | .subdPostinc reg ix offset7 => encodeAlu .subd (.mem reg (.postinc ix offset7))
  | .subdPredec reg ix field7 => encodeAlu .subd (.mem reg (.predec ix field7))
  | .subdR3 reg ix => encodeAlu .subd (.mem reg (.r3 ix))
  | .subdImm reg data => encodeAlu .subd (.imm reg data)
  | .subdReg3 regi regj regk => encodeAlu .subd (.regs regi regj regk)
  | .subdcDirect reg addr => encodeAlu .subdc (.mem reg (.direct addr))
  | .subdcIndexed reg ix offset8 => encodeAlu .subdc (.mem reg (.indexed ix offset8))
  | .subdcPostinc reg ix offset7 => encodeAlu .subdc (.mem reg (.postinc ix offset7))
  | .subdcPredec reg ix field7 => encodeAlu .subdc (.mem reg (.predec ix field7))
  | .subdcR3 reg ix => encodeAlu .subdc (.mem reg (.r3 ix))
  | .subdcImm reg data => encodeAlu .subdc (.imm reg data)
  | .subdcReg3 regi regj regk => encodeAlu .subdc (.regs regi regj regk)
  | .subsDirect reg addr => encodeAlu .subs (.mem reg (.direct addr))
  | .subsIndexed reg ix offset8 => encodeAlu .subs (.mem reg (.indexed ix offset8))
  | .subsPostinc reg ix offset7 => encodeAlu .subs (.mem reg (.postinc ix offset7))
  | .subsPredec reg ix field7 => encodeAlu .subs (.mem reg (.predec ix field7))
  | .subsR3 reg ix => encodeAlu .subs (.mem reg (.r3 ix))
  | .subsImm reg data => encodeAlu .subs (.imm reg data)
  | .subsReg3 regi regj regk => encodeAlu .subs (.regs regi regj regk)
  | .subscDirect reg addr => encodeAlu .subsc (.mem reg (.direct addr))
  | .subscIndexed reg ix offset8 => encodeAlu .subsc (.mem reg (.indexed ix offset8))
  | .subscPostinc reg ix offset7 => encodeAlu .subsc (.mem reg (.postinc ix offset7))
  | .subscPredec reg ix field7 => encodeAlu .subsc (.mem reg (.predec ix field7))
  | .subscR3 reg ix => encodeAlu .subsc (.mem reg (.r3 ix))
  | .subscImm reg data => encodeAlu .subsc (.imm reg data)
  | .subscReg3 regi regj regk => encodeAlu .subsc (.regs regi regj regk)
  | .xorDirect reg addr => encodeAlu .xor (.mem reg (.direct addr))
  | .xorIndexed reg ix offset8 => encodeAlu .xor (.mem reg (.indexed ix offset8))
  | .xorPostinc reg ix offset7 => encodeAlu .xor (.mem reg (.postinc ix offset7))
  | .xorPredec reg ix field7 => encodeAlu .xor (.mem reg (.predec ix field7))
  | .xorR3 reg ix => encodeAlu .xor (.mem reg (.r3 ix))
  | .xorImm reg data => encodeAlu .xor (.imm reg data)
  | .xorReg3 regi regj regk => encodeAlu .xor (.regs regi regj regk)
  | .tstbImm reg data => encodeAlu .tstb (.imm reg data)
  | .jccAbs target => encodeJcc .cc (.abs target)
  | .jccIp => encodeJcc .cc .ip
  | .jvcAbs target => encodeJcc .vc (.abs target)
  | .jvcIp => encodeJcc .vc .ip
  | .jzcAbs target => encodeJcc .zc (.abs target)
  | .jzcIp => encodeJcc .zc .ip
  | .jumpAbs target => encodeJcc .always (.abs target)
  | .jumpIp => encodeJcc .always .ip
  | .jcsAbs target => encodeJcc .cs (.abs target)
  | .jcsIp => encodeJcc .cs .ip
  | .jvsAbs target => encodeJcc .vs (.abs target)
  | .jvsIp => encodeJcc .vs .ip
  | .jzsAbs target => encodeJcc .zs (.abs target)
  | .jzsIp => encodeJcc .zs .ip
  | .jevAbs target => encodeJcc .ev (.abs target)
  | .jevIp => encodeJcc .ev .ip
  | .callAbs target => 0b111001#6 ++ ~~~target
  | .callIp => 0b101001#6 ++ 0xFFFF#16
  | .callsAbs target => 0b111010#6 ++ ~~~target
  | .callsIp => 0b101010#6 ++ 0xFFFF#16
  | .ret => 0b1111110011#10 ++ 0xFFF#12
  | .reti => 0b1111110001#10 ++ 0xFFF#12
  | .pop => 0b1111101011#10 ++ 0xFFF#12
  | .push => 0b101101#6 ++ 0xFFFF#16
  | .nop => 0x3FFFFF#22
  | .halt => 0b0010111101#10 ++ 0xFFF#12
  | .sflag => 0b0010110111#10 ++ 0xFFF#12
  | .pmd on => 0b0010111110#10 ++ 0b111#3 ++ BitVec.ofBool on ++ 0xFF#8
  | .freq divn => 0b0010111011#10 ++ 0xFF#8 ++ divn

end Sys2Proof
end

