-- ==== Sys2Proof/Config.lean ====
section
/-! DEFINITION. What the platform fixes (the spec's parameters) and the free values: opaque constants that nothing in
Lean can evaluate, one for each kind of value the spec leaves undefined. -/

namespace Sys2Proof

/-! ## Free values

A free value is one of these constants applied to the number of values the run has drawn so far (a fresh value each
time), or to an address (one value for each location). No statement may depend on what it is (log 3). -/

/-- An undefined bit: `any1()` (93_implementation_defined.md U3, U6, U16). -/
opaque Config.freeBit : Nat → Bool

/-- An undefined low nibble of `a` after `SFLAG` (93 U5). -/
opaque Config.freeNibble : Nat → BitVec 4

/-- A byte a device answers, or a byte an unpopulated address keeps (93 U11, 92 D19). -/
opaque Config.freeByte : Nat → Byte

/-- The content of a hardware stack level vacated by a pop (93 U9). -/
opaque Config.freeLevel : Nat → Word

/-- The word the test shift register captures (93 U14). -/
opaque Config.freeCapture : Nat → IWord

/-- The byte a data memory location holds before anything has written it: one value for each location (93 U11). -/
opaque Config.powerUpByte : Nat → Byte

/-! ## The platform (the parameters of the spec, 93 U19) -/

/-- What stands at a data memory address (20_memory.md R76, R92; 92 D3). -/
inductive DataKind where
  /-- private RAM: changed by the core's own stores only -/
  | ram
  /-- shared RAM: other bus masters may change it between two steps -/
  | shared
  /-- a peripheral: answered by an oracle, its writes recorded in order (92 D19) -/
  | device
  /-- nothing (93 U11) -/
  | unpopulated
  deriving DecidableEq, Repr

/-- One entry of the data half of `mem_map`: the addresses from `first` to `last`. -/
structure Region where
  first : Word
  last : Word
  kind : DataKind
  deriving DecidableEq, Repr

/-- The parameters of the spec as plain data that no step changes (log 2). -/
structure Platform where
  /-- `STACK_DEPTH` (00_scope.md R7) -/
  stackDepth : Nat
  /-- `RETI_GIE_DELAY` = 1 (60_exceptions.md R331) -/
  retiGieDelay : Bool
  /-- the data half of `mem_map`: the first region that holds an address decides, an address in none is private RAM -/
  dataMap : List Region
  deriving DecidableEq, Repr

/-- The defaults the spec gives: four levels (R7), no delay (R331), every data address plain RAM (92 D3). -/
def Config.defaultPlatform : Platform :=
  { stackDepth := 4, retiGieDelay := false, dataMap := [] }

end Sys2Proof
end

