-- ==== Sys2Proof/Machine/State.lean ====
section
/-! DEFINITION. The state of the machine as plain data, its reset value, and the reasons a step can stop. -/

namespace Sys2Proof.Machine

/-- The sixteen 8-bit data registers (10_state.md R20); `Machine/Ops.lean` reads and writes them by code. -/
structure Regs where
  i0l : Byte
  i0h : Byte
  i1l : Byte
  i1h : Byte
  i2l : Byte
  i2h : Byte
  i3l : Byte
  i3h : Byte
  ipl : Byte
  iph : Byte
  stat : Byte
  r3 : Byte
  r2 : Byte
  r1 : Byte
  r0 : Byte
  a : Byte
  deriving DecidableEq, Repr

/-- The flags, which are no bits of `stat` (10_state.md R35). -/
structure Flags where
  c : Bool
  v : Bool
  z : Bool
  deriving DecidableEq, Repr

/-- The request lines that are asserted at an instruction boundary (60_exceptions.md R315, R316). -/
structure Pins where
  int2 : Bool
  int1 : Bool
  int0 : Bool
  ev1 : Bool
  ev0 : Bool
  deriving DecidableEq, Repr

/-- The interrupt levels (60_exceptions.md R310). -/
inductive Level where
  | level0
  | level1
  | level2
  deriving DecidableEq, Repr

/-- What the outside world does in one step (60_exceptions.md R330, R351; 20_memory.md R92; log 1). -/
structure StepInput where
  /-- `nReset` asserted -/
  reset : Bool
  /-- the request lines that are low at the boundary -/
  pins : Pins
  /-- what other bus masters have written since the last step -/
  busWrites : List (Word × Byte)
  /-- `TestEn`, `TestShift`, `TestIn` -/
  testEn : Bool
  testShift : Bool
  testIn : Bool
  deriving DecidableEq, Repr

/-- No line asserted, nobody else on the bus. -/
def StepInput.idle : StepInput :=
  { reset := false, pins := ⟨false, false, false, false, false⟩, busWrites := [], testEn := false,
    testShift := false, testIn := false }

/-- The machine state. INVENTORY.md names the rule of every field. -/
structure State where
  /-- the sixteen data registers (10_state.md R20) -/
  regs : Regs
  /-- the program counter (10_state.md R30) -/
  pc : Word
  /-- C, V, Z (10_state.md R35) -/
  flags : Flags
  /-- the hardware stack, `ST1` first (10_state.md R40) -/
  levels : List Word
  /-- the hardware stack counter (10_state.md R41) -/
  cnt : Nat
  /-- `FreqOut` (10_state.md R46) -/
  freqOut : BitVec 4
  /-- in Halt mode (10_state.md R47) -/
  halted : Bool
  /-- `rom_mode` (10_state.md R48) -/
  romMode : Bool
  /-- `stat_ctl`, the control view of `stat` (10_state.md R49) -/
  statCtl : Byte
  /-- the register written by the last instruction if that was a multiplication (10_state.md R50) -/
  mulShadow : Option Reg
  /-- data memory, strictly rising addresses (20_memory.md R72) -/
  dm : List Host.Cell
  /-- program memory, strictly rising addresses (20_memory.md R71) -/
  pm : List (Nat × IWord)
  /-- the test shift register (60_exceptions.md R352) -/
  testReg : IWord
  /-- the level of `TestEn` in this step (10_state.md R48) -/
  testEn : Bool
  /-- the model's own: the parameters of the spec (log 2) -/
  platform : Platform
  /-- the model's own: what the outside world does in the steps to come (log 1) -/
  inputs : List StepInput
  /-- the model's own: the writes made to device addresses, in order (log 29) -/
  deviceLog : List Host.Cell
  /-- the model's own: halted until a pin is asserted (93 U16, log 20) -/
  haltHeld : Bool
  /-- the model's own: how many free values the run has drawn (log 3) -/
  draws : Nat
  deriving DecidableEq, Repr

/-- Why the machine has no successor state although it is asked for one. -/
inductive Fault where
  /-- The step, for a word that matches no row of the opcode table (30_encoding.md R142, log 10). Safe. -/
  | undefinedEncoding
  /-- `CALL` and `PUSH` on a full hardware stack (10_state.md R42, R44, log 9). Safe. -/
  | stackOverflow
  /-- `RET`, `RETI` and `POP` on an empty hardware stack (10_state.md R43, R44, log 9). Safe. -/
  | stackUnderflow
  /-- The step, for a fetch from an address of program memory that holds no word (93 U11, log 5). Safe. -/
  | unpopulatedFetch
  deriving DecidableEq, Repr

/-- Why the model rejects the program or the platform. -/
inductive Refusal where
  /-- An instruction that has no meaning yet; no arm answers it. Safe. -/
  | notModelled (mnemonic : String)
  /-- `FREQ` with a reserved ratio (30_encoding.md R144, log 11). Safe. -/
  | reservedDivn
  /-- The forbidden successor of a multiplication (70_reset_and_hazards.md R378, log 17). Safe. -/
  | multiplierHazard
  /-- A post- or pre-modified store of a byte of its own index pair (20_memory.md R87, log 18). Safe. -/
  | storeOfModifiedIndex
  /-- `PMD #1` outside Test mode (44_special.md R274, log 12). Safe. -/
  | pmdOnInNormalMode
  /-- The step, in ROM mode with `TestEn` low (91_not_in_source.md N47, log 16). Safe. -/
  | romModeOutsideTest
  deriving DecidableEq, Repr

/-- The registers after reset: "All registers are cleared." (10_state.md R52). -/
def Regs.reset : Regs :=
  { i0l := 0, i0h := 0, i1l := 0, i1h := 0, i2l := 0, i2h := 0, i3l := 0, i3h := 0, ipl := 0, iph := 0, stat := 0,
    r3 := 0, r2 := 0, r1 := 0, r0 := 0, a := 0 }

/-- The machine right after reset (10_state.md R52). DESIGN CHOICE where the spec gives no value: flags (log 6), stack
levels (log 7), test shift register (log 14), and the model's own fields (logs 1, 2, 3, 20, 29). -/
def State.reset : State :=
  { regs := Regs.reset
    pc := 0
    flags := ⟨false, false, false⟩
    levels := List.replicate Config.defaultPlatform.stackDepth 0
    cnt := 0
    freqOut := 0
    halted := false
    romMode := false
    statCtl := 0
    mulShadow := none
    dm := []
    pm := []
    testReg := 0
    testEn := false
    platform := Config.defaultPlatform
    inputs := []
    deviceLog := []
    haltHeld := false
    draws := 0 }

end Sys2Proof.Machine
end

