-- ==== Sys2Proof/Machine/Ops.lean ====
section
/-! DEFINITION. The shared operations over registers, data and program memory, the hardware stack and the request
lines; taking an interrupt and returning from one. -/

namespace Sys2Proof.Machine

/-! ## Registers (10_state.md R20 to R25) -/

/-- The register of a code. -/
def Regs.get (rs : Regs) : Reg → Byte
  | .i0l => rs.i0l
  | .i0h => rs.i0h
  | .i1l => rs.i1l
  | .i1h => rs.i1h
  | .i2l => rs.i2l
  | .i2h => rs.i2h
  | .i3l => rs.i3l
  | .i3h => rs.i3h
  | .ipl => rs.ipl
  | .iph => rs.iph
  | .stat => rs.stat
  | .r3 => rs.r3
  | .r2 => rs.r2
  | .r1 => rs.r1
  | .r0 => rs.r0
  | .a => rs.a

/-- The register file with one register written. -/
def Regs.set (rs : Regs) (r : Reg) (v : Byte) : Regs :=
  match r with
  | .i0l => { rs with i0l := v }
  | .i0h => { rs with i0h := v }
  | .i1l => { rs with i1l := v }
  | .i1h => { rs with i1h := v }
  | .i2l => { rs with i2l := v }
  | .i2h => { rs with i2h := v }
  | .i3l => { rs with i3l := v }
  | .i3h => { rs with i3h := v }
  | .ipl => { rs with ipl := v }
  | .iph => { rs with iph := v }
  | .stat => { rs with stat := v }
  | .r3 => { rs with r3 := v }
  | .r2 => { rs with r2 := v }
  | .r1 => { rs with r1 := v }
  | .r0 => { rs with r0 := v }
  | .a => { rs with a := v }

/-- The 16-bit value of an index pair, the `h` register on top (10_state.md R22). -/
def Regs.pair (rs : Regs) (ix : Ix) : Word := rs.get ix.hi ++ rs.get ix.lo

/-- Both byte registers of a pair written (10_state.md R22). -/
def Regs.setPair (rs : Regs) (ix : Ix) (w : Word) : Regs :=
  (rs.set ix.hi (w.extractLsb' 8 8)).set ix.lo (w.extractLsb' 0 8)

/-- `ip` (10_state.md R22). -/
def Regs.ip (rs : Regs) : Word := rs.iph ++ rs.ipl

/-- `ip` written (10_state.md R22). -/
def Regs.setIp (rs : Regs) (w : Word) : Regs :=
  (rs.set .iph (w.extractLsb' 8 8)).set .ipl (w.extractLsb' 0 8)

/-- The value of a register. -/
def State.reg (s : State) (r : Reg) : Byte := s.regs.get r

/-- One register written. -/
def State.setReg (s : State) (r : Reg) (v : Byte) : State := { s with regs := s.regs.set r v }

/-- An index pair written. -/
def State.setPair (s : State) (ix : Ix) (w : Word) : State := { s with regs := s.regs.setPair ix w }

/-- `ip` written. -/
def State.setIp (s : State) (w : Word) : State := { s with regs := s.regs.setIp w }

/-! ## Memories in canonical form: a list of address and value, addresses strictly rising (log 4) -/

/-- What the list holds at an address; an unlisted address holds no value. -/
def Memory.lookup {n : Nat} : List (Nat × BitVec n) → Nat → Option (BitVec n)
  | [], _ => none
  | (k, v) :: rest, a => if a = k then some v else Memory.lookup rest a

/-- The list with one address written. -/
def Memory.insert {n : Nat} : List (Nat × BitVec n) → Nat → BitVec n → List (Nat × BitVec n)
  | [], a, v => [(a, v)]
  | (k, x) :: rest, a, v =>
    if a < k then (a, v) :: (k, x) :: rest
    else if a = k then (a, v) :: rest
    else (k, x) :: Memory.insert rest a v

/-- Addresses strictly rising from `lo` and below 65536. -/
def Memory.wfFrom {n : Nat} : Nat → List (Nat × BitVec n) → Bool
  | _, [] => true
  | lo, (k, _) :: rest => decide (lo ≤ k) && decide (k < 65536) && Memory.wfFrom (k + 1) rest

/-- The canonical form. An unlisted address holds no value, so no entry equals what an unlisted address reads as. -/
def Memory.wf {n : Nat} (m : List (Nat × BitVec n)) : Bool := Memory.wfFrom 0 m

/-! ## Data memory (20_memory.md R72 to R78) -/

/-- What the platform puts at a data address: the first region that holds it, else private RAM (92 D3). -/
def State.kindAt (s : State) (a : Word) : DataKind :=
  match s.platform.dataMap.find? (fun r => decide (r.first ≤ a) && decide (a ≤ r.last)) with
  | some r => r.kind
  | none => .ram

/-- The byte a location holds; one that nothing has written holds the free value of its location (93 U11). -/
def State.byteAt (s : State) (a : Word) : Byte :=
  (Memory.lookup s.dm a.toNat).getD (Config.powerUpByte a.toNat)

/-- `MemRead`: a device answers a fresh free byte (92 D19). -/
def State.readData (s : State) (a : Word) : Byte :=
  match s.kindAt a with
  | .device => Config.freeByte s.draws
  | .ram | .shared | .unpopulated => s.byteAt a

/-- How many free values `readData` draws. -/
def State.readDraws (s : State) (a : Word) : Nat :=
  match s.kindAt a with
  | .device => 1
  | .ram | .shared | .unpopulated => 0

/-- A byte put into data memory. -/
def State.setByte (s : State) (a : Word) (v : Byte) : State :=
  { s with dm := Memory.insert s.dm a.toNat v }

/-- `MemWrite`: a device records the write (92 D19), an unpopulated address keeps a fresh free byte (93 U11). -/
def State.writeData (s : State) (a : Word) (v : Byte) : State :=
  match s.kindAt a with
  | .ram | .shared => s.setByte a v
  | .device => { s with deviceLog := s.deviceLog ++ [(a.toNat, v)] }
  | .unpopulated => { s.setByte a (Config.freeByte s.draws) with draws := s.draws + 1 }

/-! ## The hardware stack (10_state.md R40 to R45) -/

/-- `stack_full` (10_state.md R41). -/
def State.stackFull (s : State) : Bool := s.cnt == s.platform.stackDepth

/-- `stack_empty` (10_state.md R41). -/
def State.stackEmpty (s : State) : Bool := s.cnt == 0

/-- The stack with `v` pushed, where it is not full (10_state.md R42). -/
def State.pushed (s : State) (v : Word) : State :=
  { s with levels := (v :: s.levels).take s.platform.stackDepth, cnt := s.cnt + 1 }

/-- `push(v)`; `none` when the stack is full (10_state.md R42, R44). -/
def State.push (s : State) (v : Word) : Option State :=
  if s.stackFull then none else some (s.pushed v)

/-- `pop()`: the top level and the state after; the vacated level holds a free value; `none` when the stack is empty
(10_state.md R43, R44). -/
def State.pop (s : State) : Option (Word × State) :=
  if s.stackEmpty then none
  else
    match s.levels with
    | [] => none
    | v :: rest =>
      some (v, { s with levels := rest ++ [Config.freeLevel s.draws], cnt := s.cnt - 1, draws := s.draws + 1 })

/-! ## Requests (60_exceptions.md R315 to R323) -/

/-- The `IN` bit of a level in `stat` (10_state.md R27). -/
def Level.requestBit : Level → Nat
  | .level0 => 2
  | .level1 => 3
  | .level2 => 4

/-- The individual enable of a level: IE1, IE2; level 0 has none (60_exceptions.md R320). -/
def Level.enabled (ctl : Byte) : Level → Bool
  | .level0 => true
  | .level1 => ctl.getLsbD 6
  | .level2 => ctl.getLsbD 7

/-- The vector of a level (60_exceptions.md R325). -/
def Level.vector : Level → Word
  | .level0 => 3
  | .level1 => 1
  | .level2 => 2

/-- The masked request of a level on a view of `stat` (60_exceptions.md R322). -/
def State.request (s : State) (ctl : Byte) (k : Level) : Bool :=
  ctl.getLsbD k.requestBit && k.enabled ctl && ctl.getLsbD 5 && !s.stackFull

/-- An event bit is set in a view of `stat` (60_exceptions.md R330). -/
def eventActive (ctl : Byte) : Bool := ctl.getLsbD 0 || ctl.getLsbD 1

/-- An event or some masked request is active: Halt mode is left, or not entered (60_exceptions.md R345, 44_special.md
R272). -/
def State.wakes (s : State) (ctl : Byte) : Bool :=
  eventActive ctl || s.request ctl .level0 || s.request ctl .level1 || s.request ctl .level2

/-- A bit that `stat` holds and its control view does not: the instruction before this one has set it, since pins set the
bit in both. -/
def State.justSet (s : State) (bit : Nat) : Bool := s.regs.stat.getLsbD bit && !s.statCtl.getLsbD bit

/-- The instruction before this one has set an event bit or the request bit of an unmasked level, the case of 93 U16
(60_exceptions.md R345). A level that it has only unmasked is not the case (log 20). -/
def State.wakeUpJustSet (s : State) : Bool :=
  s.justSet 0 || s.justSet 1 || s.request s.regs.stat .level0 && s.justSet Level.level0.requestBit ||
    s.request s.regs.stat .level1 && s.justSet Level.level1.requestBit ||
    s.request s.regs.stat .level2 && s.justSet Level.level2.requestBit

/-- The interrupt to take: level 0 before 1 before 2 (60_exceptions.md R323). -/
def State.pending (s : State) : Option Level :=
  if s.request s.statCtl .level0 then some .level0
  else if s.request s.statCtl .level1 then some .level1
  else if s.request s.statCtl .level2 then some .level2
  else none

/-- The bits of `stat` the asserted lines set (60_exceptions.md R315). -/
def Pins.mask (p : Pins) : Byte :=
  0b000#3 ++ BitVec.ofBool p.int2 ++ BitVec.ofBool p.int1 ++ BitVec.ofBool p.int0 ++ BitVec.ofBool p.ev1 ++
    BitVec.ofBool p.ev0

/-- Some request line is asserted. -/
def Pins.any (p : Pins) : Bool := p.int2 || p.int1 || p.int0 || p.ev1 || p.ev0

/-- The asserted lines set their bits in `stat` and in its control view (60_exceptions.md R316); a pin ends the second
behaviour of 93 U16. -/
def State.samplePins (s : State) (p : Pins) : State :=
  { s with
    regs := s.regs.set .stat (s.regs.stat ||| p.mask)
    statCtl := s.statCtl ||| p.mask
    haltHeld := s.haltHeld && !p.any }

/-! ## The end of an instruction, taking an interrupt, returning from one -/

/-- The end of every instruction: the pc it leaves, the control view made equal to `stat` at the start of the step
(10_state.md R49), the register a multiplication has written (R50). `before` is the state the instruction began in. -/
def State.finish (before after : State) (pc : Word) (shadow : Option Reg) : State :=
  { after with pc := pc, statCtl := before.regs.stat, mulShadow := shadow }

/-- The instruction after this one (10_state.md R31, R32). -/
def State.nextPc (s : State) : Word := s.pc + 1

/-- GIE cleared in a value of `stat`. -/
def clearGie (v : Byte) : Byte := v &&& 0xDF#8

/-- GIE set in a value of `stat`. -/
def setGie (v : Byte) : Byte := v ||| 0x20#8

/-- Interrupt entry (60_exceptions.md R324): the return address pushed, GIE cleared, the control view made equal to
`stat`, the multiplier shadow dropped, Halt mode left. A request is masked while the stack is full (R321), so the push
finds room. -/
def State.interruptEntry (s : State) (k : Level) : State :=
  let stat := clearGie s.regs.stat
  { s.pushed s.pc with
    regs := s.regs.set .stat stat
    statCtl := stat
    pc := k.vector
    halted := false
    haltHeld := false
    mulShadow := none }

/-- The return from an interrupt (40_branch.md R163): the pc popped, GIE set in `stat`, and in the control view unless
`RETI_GIE_DELAY` is 1 (60_exceptions.md R331); `none` when the stack is empty. -/
def State.interruptReturn (s : State) : Option State :=
  match s.pop with
  | none => none
  | some (target, t) =>
    some
      { (s.finish (t.setReg .stat (setGie s.regs.stat)) target none) with
        statCtl := if s.platform.retiGieDelay then s.regs.stat else setGie s.regs.stat }

end Sys2Proof.Machine
end

