-- ==== Sys2Proof/Machine/Operands.lean ====
section
/-! DEFINITION. The operand forms: effective addresses and index updates (20_memory.md R80 to R86), the operands of the
ALU-class instructions (30_encoding.md R130), and the registers the multiplier hazard is about (70 R378). -/

namespace Sys2Proof

/-- The registers the address is formed from. -/
def EAddr.sources : EAddr → List Reg
  | .direct _ => []
  | .indexed ix _ => [ix.lo, ix.hi]
  | .postinc ix _ => [ix.lo, ix.hi]
  | .predec ix _ => [ix.lo, ix.hi]
  | .r3 ix => [ix.lo, ix.hi, .r3]

/-- The index pair a mode modifies. -/
def EAddr.modifies : EAddr → Option Ix
  | .postinc ix _ => some ix
  | .predec ix _ => some ix
  | .direct _ | .indexed _ _ | .r3 _ => none

/-- The destination register (30_encoding.md R130). -/
def AluForm.dest : AluForm → Reg
  | .mem reg _ => reg
  | .imm reg _ => reg
  | .regs res _ _ => res

/-- The registers an address of the form is formed from. -/
def AluForm.sources : AluForm → List Reg
  | .mem _ ea => ea.sources
  | .imm _ _ => []
  | .regs _ _ _ => []

/-- The registers of `ip`. -/
def ipRegs : List Reg := [.ipl, .iph]

/-- The registers a branch target is formed from. -/
def Target.sources : Target → List Reg
  | .abs _ => []
  | .ip => ipRegs

end Sys2Proof

namespace Sys2Proof.Machine

/-- The displacement of the pre-decrement mode: the field padded with ones (20_memory.md R84). -/
def predecDisplacement (field : BitVec 7) : Word := 0b111111111#9 ++ field

/-- The effective address, modulo 65536, from the registers before the instruction (20_memory.md R80 to R85). -/
def State.address (s : State) : EAddr → Word
  | .direct addr => addr.zeroExtend 16
  | .indexed ix offset => s.regs.pair ix + offset.zeroExtend 16
  | .postinc ix _ => s.regs.pair ix
  | .predec ix field => s.regs.pair ix + predecDisplacement field
  | .r3 ix => s.regs.pair ix + s.regs.r3.zeroExtend 16

/-- The index pair written back by the two modifying modes (20_memory.md R83, R84). -/
def State.updateIndex (s : State) : EAddr → State
  | .direct _ => s
  | .indexed _ _ => s
  | .postinc ix offset => s.setPair ix (s.regs.pair ix + offset.zeroExtend 16)
  | .predec ix field => s.setPair ix (s.regs.pair ix + predecDisplacement field)
  | .r3 _ => s

/-- The last instruction was a multiplication and wrote one of these registers (70_reset_and_hazards.md R378). -/
def State.hazard (s : State) (rs : List Reg) : Bool :=
  match s.mulShadow with
  | none => false
  | some d => rs.contains d

/-- op1 (30_encoding.md R130). -/
def State.op1 (s : State) : AluForm → Byte
  | .mem _ ea => s.readData (s.address ea)
  | .imm _ data => data
  | .regs _ op1 _ => s.reg op1

/-- op2 (30_encoding.md R130). -/
def State.op2 (s : State) : AluForm → Byte
  | .mem reg _ => s.reg reg
  | .imm reg _ => s.reg reg
  | .regs _ _ op2 => s.reg op2

/-- The free values the operand read draws. -/
def State.operandDraws (s : State) : AluForm → Nat
  | .mem _ ea => s.readDraws (s.address ea)
  | .imm _ _ => 0
  | .regs _ _ _ => 0

/-- The index update of the form (step 4 of 30_encoding.md R131). -/
def State.updateForm (s : State) : AluForm → State
  | .mem _ ea => s.updateIndex ea
  | .imm _ _ => s
  | .regs _ _ _ => s

/-- The value of a branch target before the instruction writes anything (40_branch.md R150). -/
def State.target (s : State) : Target → Word
  | .abs addr => addr
  | .ip => s.regs.ip

/-- The condition of a `Jcc`; `JEV` reads the control view (40_branch.md R151, R159). -/
def State.condition (s : State) : Cond → Bool
  | .cc => !s.flags.c
  | .vc => !s.flags.v
  | .zc => !s.flags.z
  | .always => true
  | .cs => s.flags.c
  | .vs => s.flags.v
  | .zs => s.flags.z
  | .ev => eventActive s.statCtl

end Sys2Proof.Machine
end

