-- ==== Sys2Proof/Machine/Boundary.lean ====
section
/-! DEFINITION. What a step does around the execution of an instruction: taking the inputs, reset, Halt mode, fetching
the word, Test mode and ROM mode (60_exceptions.md R312, R330, R345, R350 to R353). `Machine/Step.lean` composes these. -/

namespace Sys2Proof.Machine

/-! ## Inputs -/

/-- The input of the next step; an exhausted schedule is idle (log 1). -/
def State.nextInput (s : State) : StepInput := s.inputs.headD StepInput.idle

/-- A write of another bus master: only shared locations take it (20_memory.md R92, log 31). -/
def State.busWrite (s : State) (w : Word × Byte) : State :=
  match s.kindAt w.1 with
  | .shared => s.setByte w.1 w.2
  | .ram | .device | .unpopulated => s

/-- The level of `TestEn` latched. When Test mode is entered the test shift register holds a free capture (93 U14,
log 14). -/
def State.latchTest (s : State) (testEn : Bool) : State :=
  if testEn && !s.testEn then
    { s with testEn := true, testReg := Config.freeCapture s.draws, draws := s.draws + 1 }
  else { s with testEn := testEn }

/-- The next input taken from the schedule: the writes of other agents and the level of `TestEn`. -/
def State.takeInput (s : State) : State :=
  let i := s.nextInput
  (i.busWrites.foldl State.busWrite { s with inputs := s.inputs.tail }).latchTest i.testEn

/-! ## Reset -/

/-- The reset event (60_exceptions.md R312, 10_state.md R52): memories and platform stay, and so do the model's own
records; everything else takes its reset value. -/
def State.resetEvent (s : State) : State :=
  { State.reset with
    levels := List.replicate s.platform.stackDepth 0
    dm := s.dm
    pm := s.pm
    platform := s.platform
    inputs := s.inputs
    deviceLog := s.deviceLog
    draws := s.draws }

/-! ## Halt mode -/

/-- Step 5 of 60_exceptions.md R330: no wake-up condition, or held by the second behaviour of 93 U16 (log 20). -/
def State.staysHalted (s : State) : Bool := s.halted && (s.haltHeld || !s.wakes s.statCtl)

/-- A step in Halt mode: only the control view changes (60_exceptions.md R330). -/
def State.stayHalted (s : State) : State := { s with statCtl := s.regs.stat }

/-- Halt mode left (60_exceptions.md R345). -/
def State.leaveHalt (s : State) : State := if s.halted then { s with halted := false, haltHeld := false } else s

/-! ## Fetch -/

/-- The instruction word: from program memory at the pc (60_exceptions.md R330), in Test mode from the test shift register
(R351). -/
def State.instructionWord (s : State) : Option IWord :=
  if s.testEn then some s.testReg else Memory.lookup s.pm s.pc.toNat

/-- A word put into program memory at the pc: what a loader does from outside the machine (log 5). -/
def State.loadAtPc (s : State) (w : IWord) : State := { s with pm := Memory.insert s.pm s.pc.toNat w }

/-! ## Test mode and ROM mode (logs 13 to 16) -/

/-- One shift cycle: `TestIn` enters, the least significant bit first, and nothing else happens (60_exceptions.md R351,
R352). -/
def State.shiftTest (s : State) (testIn : Bool) : State :=
  { s with testReg := BitVec.ofBool testIn ++ s.testReg.extractLsb' 1 21 }

/-- At the end of an execution in Test mode the shift register is loaded with a free capture (60_exceptions.md R351,
93 U14). -/
def State.capture (s : State) : State :=
  if s.testEn then { s with testReg := Config.freeCapture s.draws, draws := s.draws + 1 } else s

/-- `capture` on the answer of an execution. -/
def captureOutcome : Host.Outcome State Fault Refusal → Host.Outcome State Fault Refusal
  | .next t => .next t.capture
  | .fault r => .fault r
  | .refused r => .refused r

/-- One execute cycle in ROM mode: the word of program memory is captured instead of executed, the pc advances, and the
word of `PMD #0`, captured like any other, ends the mode (60_exceptions.md R353). -/
def State.romCycle (s : State) : Host.Outcome State Fault Refusal :=
  if s.testEn then
    match Memory.lookup s.pm s.pc.toNat with
    | none => .fault .unpopulatedFetch
    | some w =>
      .next (s.finish { s with testReg := w, romMode := decide (decode w ≠ some (.pmd false)) } s.nextPc none)
  else .refused .romModeOutsideTest

/-! ## Output pins (60_exceptions.md R360) -/

/-- The output pins that carry state. -/
structure Outputs where
  haltState : Bool
  freqOut : BitVec 4
  romMode : Bool
  pmAddr : Word
  testOut : Bool
  deriving DecidableEq, Repr

/-- The levels of the output pins; `TestOut` is 1 in Normal mode, in Test mode the bit the shift register gives out next
(60_exceptions.md R351, log 14). -/
def State.outputs (s : State) : Outputs :=
  { haltState := s.halted
    freqOut := s.freqOut
    romMode := s.romMode
    pmAddr := s.pc
    testOut := if s.testEn then s.testReg.getLsbD 0 else true }

end Sys2Proof.Machine
end

