-- ==== Sys2Proof/Machine/Flags.lean ====
section
/-! DEFINITION. The function each ALU-class operation computes: result, accumulator and flags (42_arith.md,
43_logic_shift.md, 41_transfer.md). -/

namespace Sys2Proof.Machine

/-- What an ALU-class operation answers (step 3 of 30_encoding.md R131). -/
structure AluOut where
  /-- the value for the destination register -/
  result : Byte
  /-- the value for `a` -/
  acc : Byte
  /-- all three flags, the unchanged ones too -/
  flags : Flags
  /-- the destination register is written -/
  write : Bool
  /-- a multiplication -/
  mul : Bool
  /-- how many free values the operation has drawn -/
  drawn : Nat
  deriving DecidableEq, Repr

/-- op1, op2, the flags before, and the number of values drawn before. -/
abbrev AluFn := Byte → Byte → Flags → Nat → AluOut

/-! ## Shared computations -/

/-- The carry in as a number. -/
def carryIn (c : Bool) : Nat := if c then 1 else 0

/-- The result of the 8-bit adder (42_arith.md R200). -/
def add8Result (x y : Byte) (cin : Bool) : Byte := BitVec.ofNat 8 (x.toNat + y.toNat + carryIn cin)

/-- C, V and Z of the 8-bit adder (42_arith.md R200; the overflow predicate is log 23). -/
def add8Flags (x y : Byte) (cin : Bool) : Flags :=
  let r := add8Result x y cin
  { c := decide (256 ≤ x.toNat + y.toNat + carryIn cin)
    v := (x.getLsbD 7 == y.getLsbD 7) && !(r.getLsbD 7 == x.getLsbD 7)
    z := r == 0#8 }

/-- An operation that writes its result to the destination and to `a` and gives all three flags. -/
def arith (result : Byte) (flags : Flags) : AluOut :=
  { result := result, acc := result, flags := flags, write := true, mul := false, drawn := 0 }

/-- The adder as an operation. -/
def adder (x y : Byte) (cin : Bool) : AluOut := arith (add8Result x y cin) (add8Flags x y cin)

/-- The adder with V left open where prose and arithmetic of the manual disagree (93 U6, log 22). -/
def adderFreeV (x y : Byte) (cin corner : Bool) (draws : Nat) : AluOut :=
  if corner then
    { adder x y cin with flags := { add8Flags x y cin with v := Config.freeBit draws }, drawn := 1 }
  else adder x y cin

/-- An operation that gives Z from its result and leaves C and V (10_state.md R36). -/
def logical (result : Byte) (flags : Flags) : AluOut := arith result { flags with z := result == 0#8 }

/-- A compare: `a` receives `s - d`, nothing else is written; V = C AND NOT Z (42_arith.md R213, R214). -/
def compareBytes (d s : Byte) (greater : Bool) : AluOut :=
  { result := s - d, acc := s - d, flags := { c := !greater, v := !greater && !(d == s), z := d == s }, write := false,
    mul := false, drawn := 0 }

/-- A multiplication: high byte to the destination, low byte to `a`, three free flags (42_arith.md R215, R216; 93 U3).
-/
def multiply (product : Word) (draws : Nat) : AluOut :=
  { result := product.extractLsb' 8 8, acc := product.extractLsb' 0 8
    flags :=
      { c := Config.freeBit draws, v := Config.freeBit (draws + 1), z := Config.freeBit (draws + 2) }
    write := true, mul := true, drawn := 3 }

/-- A shift left with the bit shifted in (43_logic_shift.md R245, R246). -/
def shiftLeft (x : Byte) (low : Bool) : AluOut :=
  let r : Byte := x.extractLsb' 0 7 ++ BitVec.ofBool low
  arith r { c := x.getLsbD 7, v := x.getLsbD 7 ^^ x.getLsbD 6, z := r == 0#8 }

/-- A shift right with the bit shifted in; V = 0 (43_logic_shift.md R247 to R250). -/
def shiftRight (x : Byte) (high : Bool) : AluOut :=
  let r : Byte := BitVec.ofBool high ++ x.extractLsb' 1 7
  arith r { c := x.getLsbD 0, v := false, z := r == 0#8 }

/-! ## Arithmetic (42_arith.md) -/

/-- R201 -/
def aluAdd : AluFn := fun op1 op2 _ _ => adder op1 op2 false

/-- R202 -/
def aluAddc : AluFn := fun op1 op2 f _ => adder op1 op2 f.c

/-- R203: op1 - op2 -/
def aluSubd : AluFn := fun op1 op2 _ _ => adder op1 (~~~op2) true

/-- R204: op1 - op2 - (1 - C) -/
def aluSubdc : AluFn := fun op1 op2 f _ => adder op1 (~~~op2) f.c

/-- R205: op2 - op1 -/
def aluSubs : AluFn := fun op1 op2 _ _ => adder op2 (~~~op1) true

/-- R206: op2 - op1 - (1 - C) -/
def aluSubsc : AluFn := fun op1 op2 f _ => adder op2 (~~~op1) f.c

/-- R207 -/
def aluInc : AluFn := fun op1 _ _ _ => adder op1 0#8 true

/-- R208: V is free for 0x7F with C = 0 -/
def aluIncc : AluFn := fun op1 _ f n => adderFreeV op1 0#8 f.c (op1 == 0x7F#8 && !f.c) n

/-- R209 -/
def aluDec : AluFn := fun op1 _ _ _ => adder op1 0xFF#8 false

/-- R210: V is free for 0x80 with C = 1 -/
def aluDecc : AluFn := fun op1 _ f n => adderFreeV op1 0xFF#8 f.c (op1 == 0x80#8 && f.c) n

/-- R211 -/
def aluCpl2 : AluFn := fun op1 _ _ _ => adder (~~~op1) 0#8 true

/-- R212: V is free for 0x80 with C = 0 -/
def aluCpl2c : AluFn := fun op1 _ f n => adderFreeV (~~~op1) 0#8 f.c (op1 == 0x80#8 && !f.c) n

/-- R213: d = op2 and s = op1, unsigned -/
def aluCmp : AluFn := fun op1 op2 _ _ => compareBytes op2 op1 (decide (op1.toNat < op2.toNat))

/-- R214: d = op2 and s = op1, two's complement -/
def aluCmpa : AluFn := fun op1 op2 _ _ => compareBytes op2 op1 (decide (op1.toInt < op2.toInt))

/-- R215 -/
def aluMul : AluFn := fun op1 op2 _ n => multiply (BitVec.ofNat 16 (op1.toNat * op2.toNat)) n

/-- R216: the operands as two's complement numbers (log 24) -/
def aluMula : AluFn := fun op1 op2 _ n => multiply (BitVec.ofInt 16 (op1.toInt * op2.toInt)) n

/-! ## Logic and shifts (43_logic_shift.md) -/

/-- R240 -/
def aluAnd : AluFn := fun op1 op2 f _ => logical (op1 &&& op2) f

/-- R241 -/
def aluOr : AluFn := fun op1 op2 f _ => logical (op1 ||| op2) f

/-- R242 -/
def aluXor : AluFn := fun op1 op2 f _ => logical (op1 ^^^ op2) f

/-- R243 -/
def aluCpl1 : AluFn := fun op1 _ f _ => logical (~~~op1) f

/-- R244: AND without the register write -/
def aluTstb : AluFn := fun op1 op2 f _ => { logical (op1 &&& op2) f with write := false }

/-- R245 -/
def aluShl : AluFn := fun op1 _ _ _ => shiftLeft op1 false

/-- R246 -/
def aluShlc : AluFn := fun op1 _ f _ => shiftLeft op1 f.c

/-- R247 -/
def aluShr : AluFn := fun op1 _ _ _ => shiftRight op1 false

/-- R248 -/
def aluShrc : AluFn := fun op1 _ f _ => shiftRight op1 f.c

/-- R249 -/
def aluShra : AluFn := fun op1 _ _ _ => shiftRight op1 (op1.getLsbD 7)

/-! ## Moves (41_transfer.md) -/

/-- R180 -/
def aluMove : AluFn := fun op1 _ f _ => logical op1 f

/-- R183: the destination is written if C = 0 -/
def aluCmvd : AluFn := fun op1 _ f _ => { logical op1 f with write := !f.c }

/-- R184: the destination is written if C = 1 -/
def aluCmvs : AluFn := fun op1 _ f _ => { logical op1 f with write := f.c }

end Sys2Proof.Machine
end

