-- ==== Sys2Proof/Machine/Template.lean ====
section
/-! DEFINITION. The shared execution templates: the ALU class (30_encoding.md R131), the stores (R132), jumps (40_branch.md
R151) and calls (R160, R161). -/

namespace Sys2Proof.Machine

/-- What a step answers. -/
abbrev Result := Host.Outcome State Fault Refusal

/-- What an ALU-class operation answers on the operands of a form. -/
def State.aluOut (s : State) (f : AluFn) (form : AluForm) : AluOut :=
  f (s.op1 form) (s.op2 form) s.flags (s.draws + s.operandDraws form)

/-- Steps 4 to 8 of 30_encoding.md R131: index update, destination, `a`, flags, pc; the shadow of a multiplication. -/
def aluNext (f : AluFn) (form : AluForm) (s : State) : State :=
  let o := s.aluOut f form
  let u := s.updateForm form
  let rs := if o.write then u.regs.set form.dest o.result else u.regs
  s.finish { u with regs := rs.set .a o.acc, flags := o.flags, draws := s.draws + s.operandDraws form + o.drawn }
    s.nextPc (if o.mul then some form.dest else none)

/-- An ALU-class instruction (30_encoding.md R131), refused after a multiplication of its address (70 R378). -/
def runAlu (f : AluFn) (form : AluForm) (s : State) : Result :=
  if s.hazard form.sources then .refused .multiplierHazard else .next (aluNext f form s)

/-- The store of a byte at an operand (30_encoding.md R132). -/
def storeNext (v : Byte) (ea : EAddr) (s : State) : State :=
  s.finish ((s.writeData (s.address ea) v).updateIndex ea) s.nextPc none

/-- The source of a store is a byte of the pair the store modifies (20_memory.md R87). -/
def storesModified (reg : Reg) (ea : EAddr) : Bool :=
  match ea.modifies with
  | none => false
  | some ix => reg == ix.lo || reg == ix.hi

/-- `MOVE` of a register to memory (41_transfer.md R181). -/
def runStore (reg : Reg) (ea : EAddr) (s : State) : Result :=
  if s.hazard ea.sources then .refused .multiplierHazard
  else if storesModified reg ea then .refused .storeOfModifiedIndex
  else .next (storeNext (s.reg reg) ea s)

/-- `Jcc` (40_branch.md R151). -/
def runJump (c : Cond) (t : Target) (s : State) : Result :=
  if s.hazard t.sources then .refused .multiplierHazard
  else .next (s.finish s (if s.condition c then s.target t else s.nextPc) none)

/-- `CALL` (40_branch.md R160). -/
def runCall (t : Target) (s : State) : Result :=
  if s.hazard t.sources then .refused .multiplierHazard
  else
    match s.push s.nextPc with
    | none => .fault .stackOverflow
    | some u => .next (s.finish u (s.target t) none)

/-- `CALLS`: the old `ip` is the target (40_branch.md R161). -/
def runCalls (t : Target) (s : State) : Result :=
  if s.hazard t.sources then .refused .multiplierHazard
  else .next (s.finish (s.setIp s.nextPc) (s.target t) none)

end Sys2Proof.Machine
end

