-- ==== Sys2Proof/Machine/Arith.lean ====
section
/-! DEFINITION. The meanings of the arithmetic instructions (42_arith.md), one for each constructor. -/

namespace Sys2Proof.Machine

/-! ### `ADD` (R201) -/

def execAddDirect (reg : Reg) (addr : Byte) (s : State) : Result := runAlu aluAdd (.mem reg (.direct addr)) s

def execAddIndexed (reg : Reg) (ix : Ix) (offset8 : Byte) (s : State) : Result :=
  runAlu aluAdd (.mem reg (.indexed ix offset8)) s

def execAddPostinc (reg : Reg) (ix : Ix) (offset7 : BitVec 7) (s : State) : Result :=
  runAlu aluAdd (.mem reg (.postinc ix offset7)) s

def execAddPredec (reg : Reg) (ix : Ix) (field7 : BitVec 7) (s : State) : Result :=
  runAlu aluAdd (.mem reg (.predec ix field7)) s

def execAddR3 (reg : Reg) (ix : Ix) (s : State) : Result := runAlu aluAdd (.mem reg (.r3 ix)) s

def execAddImm (reg : Reg) (data : Byte) (s : State) : Result := runAlu aluAdd (.imm reg data) s

def execAddReg3 (regi : Reg) (regj : Reg) (regk : Reg) (s : State) : Result := runAlu aluAdd (.regs regi regj regk) s

/-! ### `ADDC` (R202) -/

def execAddcDirect (reg : Reg) (addr : Byte) (s : State) : Result := runAlu aluAddc (.mem reg (.direct addr)) s

def execAddcIndexed (reg : Reg) (ix : Ix) (offset8 : Byte) (s : State) : Result :=
  runAlu aluAddc (.mem reg (.indexed ix offset8)) s

def execAddcPostinc (reg : Reg) (ix : Ix) (offset7 : BitVec 7) (s : State) : Result :=
  runAlu aluAddc (.mem reg (.postinc ix offset7)) s

def execAddcPredec (reg : Reg) (ix : Ix) (field7 : BitVec 7) (s : State) : Result :=
  runAlu aluAddc (.mem reg (.predec ix field7)) s

def execAddcR3 (reg : Reg) (ix : Ix) (s : State) : Result := runAlu aluAddc (.mem reg (.r3 ix)) s

def execAddcImm (reg : Reg) (data : Byte) (s : State) : Result := runAlu aluAddc (.imm reg data) s

def execAddcReg3 (regi : Reg) (regj : Reg) (regk : Reg) (s : State) : Result :=
  runAlu aluAddc (.regs regi regj regk) s

/-! ### `SUBD` (R203) -/

def execSubdDirect (reg : Reg) (addr : Byte) (s : State) : Result := runAlu aluSubd (.mem reg (.direct addr)) s

def execSubdIndexed (reg : Reg) (ix : Ix) (offset8 : Byte) (s : State) : Result :=
  runAlu aluSubd (.mem reg (.indexed ix offset8)) s

def execSubdPostinc (reg : Reg) (ix : Ix) (offset7 : BitVec 7) (s : State) : Result :=
  runAlu aluSubd (.mem reg (.postinc ix offset7)) s

def execSubdPredec (reg : Reg) (ix : Ix) (field7 : BitVec 7) (s : State) : Result :=
  runAlu aluSubd (.mem reg (.predec ix field7)) s

def execSubdR3 (reg : Reg) (ix : Ix) (s : State) : Result := runAlu aluSubd (.mem reg (.r3 ix)) s

def execSubdImm (reg : Reg) (data : Byte) (s : State) : Result := runAlu aluSubd (.imm reg data) s

def execSubdReg3 (regi : Reg) (regj : Reg) (regk : Reg) (s : State) : Result :=
  runAlu aluSubd (.regs regi regj regk) s

/-! ### `SUBDC` (R204) -/

def execSubdcDirect (reg : Reg) (addr : Byte) (s : State) : Result := runAlu aluSubdc (.mem reg (.direct addr)) s

def execSubdcIndexed (reg : Reg) (ix : Ix) (offset8 : Byte) (s : State) : Result :=
  runAlu aluSubdc (.mem reg (.indexed ix offset8)) s

def execSubdcPostinc (reg : Reg) (ix : Ix) (offset7 : BitVec 7) (s : State) : Result :=
  runAlu aluSubdc (.mem reg (.postinc ix offset7)) s

def execSubdcPredec (reg : Reg) (ix : Ix) (field7 : BitVec 7) (s : State) : Result :=
  runAlu aluSubdc (.mem reg (.predec ix field7)) s

def execSubdcR3 (reg : Reg) (ix : Ix) (s : State) : Result := runAlu aluSubdc (.mem reg (.r3 ix)) s

def execSubdcImm (reg : Reg) (data : Byte) (s : State) : Result := runAlu aluSubdc (.imm reg data) s

def execSubdcReg3 (regi : Reg) (regj : Reg) (regk : Reg) (s : State) : Result :=
  runAlu aluSubdc (.regs regi regj regk) s

/-! ### `SUBS` (R205) -/

def execSubsDirect (reg : Reg) (addr : Byte) (s : State) : Result := runAlu aluSubs (.mem reg (.direct addr)) s

def execSubsIndexed (reg : Reg) (ix : Ix) (offset8 : Byte) (s : State) : Result :=
  runAlu aluSubs (.mem reg (.indexed ix offset8)) s

def execSubsPostinc (reg : Reg) (ix : Ix) (offset7 : BitVec 7) (s : State) : Result :=
  runAlu aluSubs (.mem reg (.postinc ix offset7)) s

def execSubsPredec (reg : Reg) (ix : Ix) (field7 : BitVec 7) (s : State) : Result :=
  runAlu aluSubs (.mem reg (.predec ix field7)) s

def execSubsR3 (reg : Reg) (ix : Ix) (s : State) : Result := runAlu aluSubs (.mem reg (.r3 ix)) s

def execSubsImm (reg : Reg) (data : Byte) (s : State) : Result := runAlu aluSubs (.imm reg data) s

def execSubsReg3 (regi : Reg) (regj : Reg) (regk : Reg) (s : State) : Result :=
  runAlu aluSubs (.regs regi regj regk) s

/-! ### `SUBSC` (R206) -/

def execSubscDirect (reg : Reg) (addr : Byte) (s : State) : Result := runAlu aluSubsc (.mem reg (.direct addr)) s

def execSubscIndexed (reg : Reg) (ix : Ix) (offset8 : Byte) (s : State) : Result :=
  runAlu aluSubsc (.mem reg (.indexed ix offset8)) s

def execSubscPostinc (reg : Reg) (ix : Ix) (offset7 : BitVec 7) (s : State) : Result :=
  runAlu aluSubsc (.mem reg (.postinc ix offset7)) s

def execSubscPredec (reg : Reg) (ix : Ix) (field7 : BitVec 7) (s : State) : Result :=
  runAlu aluSubsc (.mem reg (.predec ix field7)) s

def execSubscR3 (reg : Reg) (ix : Ix) (s : State) : Result := runAlu aluSubsc (.mem reg (.r3 ix)) s

def execSubscImm (reg : Reg) (data : Byte) (s : State) : Result := runAlu aluSubsc (.imm reg data) s

def execSubscReg3 (regi : Reg) (regj : Reg) (regk : Reg) (s : State) : Result :=
  runAlu aluSubsc (.regs regi regj regk) s

/-! ### `INC` (R207) -/

def execIncDirect (reg : Reg) (addr : Byte) (s : State) : Result := runAlu aluInc (.mem reg (.direct addr)) s

def execIncIndexed (reg : Reg) (ix : Ix) (offset8 : Byte) (s : State) : Result :=
  runAlu aluInc (.mem reg (.indexed ix offset8)) s

def execIncPostinc (reg : Reg) (ix : Ix) (offset7 : BitVec 7) (s : State) : Result :=
  runAlu aluInc (.mem reg (.postinc ix offset7)) s

def execIncPredec (reg : Reg) (ix : Ix) (field7 : BitVec 7) (s : State) : Result :=
  runAlu aluInc (.mem reg (.predec ix field7)) s

def execIncR3 (reg : Reg) (ix : Ix) (s : State) : Result := runAlu aluInc (.mem reg (.r3 ix)) s

def execIncReg2 (regi : Reg) (regj : Reg) (s : State) : Result := runAlu aluInc (.regs regi regj .a) s

/-! ### `INCC` (R208) -/

def execInccDirect (reg : Reg) (addr : Byte) (s : State) : Result := runAlu aluIncc (.mem reg (.direct addr)) s

def execInccIndexed (reg : Reg) (ix : Ix) (offset8 : Byte) (s : State) : Result :=
  runAlu aluIncc (.mem reg (.indexed ix offset8)) s

def execInccPostinc (reg : Reg) (ix : Ix) (offset7 : BitVec 7) (s : State) : Result :=
  runAlu aluIncc (.mem reg (.postinc ix offset7)) s

def execInccPredec (reg : Reg) (ix : Ix) (field7 : BitVec 7) (s : State) : Result :=
  runAlu aluIncc (.mem reg (.predec ix field7)) s

def execInccR3 (reg : Reg) (ix : Ix) (s : State) : Result := runAlu aluIncc (.mem reg (.r3 ix)) s

def execInccReg2 (regi : Reg) (regj : Reg) (s : State) : Result := runAlu aluIncc (.regs regi regj .a) s

/-! ### `DEC` (R209) -/

def execDecDirect (reg : Reg) (addr : Byte) (s : State) : Result := runAlu aluDec (.mem reg (.direct addr)) s

def execDecIndexed (reg : Reg) (ix : Ix) (offset8 : Byte) (s : State) : Result :=
  runAlu aluDec (.mem reg (.indexed ix offset8)) s

def execDecPostinc (reg : Reg) (ix : Ix) (offset7 : BitVec 7) (s : State) : Result :=
  runAlu aluDec (.mem reg (.postinc ix offset7)) s

def execDecPredec (reg : Reg) (ix : Ix) (field7 : BitVec 7) (s : State) : Result :=
  runAlu aluDec (.mem reg (.predec ix field7)) s

def execDecR3 (reg : Reg) (ix : Ix) (s : State) : Result := runAlu aluDec (.mem reg (.r3 ix)) s

def execDecReg2 (regi : Reg) (regj : Reg) (s : State) : Result := runAlu aluDec (.regs regi regj .a) s

/-! ### `DECC` (R210) -/

def execDeccDirect (reg : Reg) (addr : Byte) (s : State) : Result := runAlu aluDecc (.mem reg (.direct addr)) s

def execDeccIndexed (reg : Reg) (ix : Ix) (offset8 : Byte) (s : State) : Result :=
  runAlu aluDecc (.mem reg (.indexed ix offset8)) s

def execDeccPostinc (reg : Reg) (ix : Ix) (offset7 : BitVec 7) (s : State) : Result :=
  runAlu aluDecc (.mem reg (.postinc ix offset7)) s

def execDeccPredec (reg : Reg) (ix : Ix) (field7 : BitVec 7) (s : State) : Result :=
  runAlu aluDecc (.mem reg (.predec ix field7)) s

def execDeccR3 (reg : Reg) (ix : Ix) (s : State) : Result := runAlu aluDecc (.mem reg (.r3 ix)) s

def execDeccReg2 (regi : Reg) (regj : Reg) (s : State) : Result := runAlu aluDecc (.regs regi regj .a) s

/-! ### `CPL2` (R211) -/

def execCpl2Direct (reg : Reg) (addr : Byte) (s : State) : Result := runAlu aluCpl2 (.mem reg (.direct addr)) s

def execCpl2Indexed (reg : Reg) (ix : Ix) (offset8 : Byte) (s : State) : Result :=
  runAlu aluCpl2 (.mem reg (.indexed ix offset8)) s

def execCpl2Postinc (reg : Reg) (ix : Ix) (offset7 : BitVec 7) (s : State) : Result :=
  runAlu aluCpl2 (.mem reg (.postinc ix offset7)) s

def execCpl2Predec (reg : Reg) (ix : Ix) (field7 : BitVec 7) (s : State) : Result :=
  runAlu aluCpl2 (.mem reg (.predec ix field7)) s

def execCpl2R3 (reg : Reg) (ix : Ix) (s : State) : Result := runAlu aluCpl2 (.mem reg (.r3 ix)) s

def execCpl2Reg2 (regi : Reg) (regj : Reg) (s : State) : Result := runAlu aluCpl2 (.regs regi regj .a) s

/-! ### `CPL2C` (R212) -/

def execCpl2cDirect (reg : Reg) (addr : Byte) (s : State) : Result := runAlu aluCpl2c (.mem reg (.direct addr)) s

def execCpl2cIndexed (reg : Reg) (ix : Ix) (offset8 : Byte) (s : State) : Result :=
  runAlu aluCpl2c (.mem reg (.indexed ix offset8)) s

def execCpl2cPostinc (reg : Reg) (ix : Ix) (offset7 : BitVec 7) (s : State) : Result :=
  runAlu aluCpl2c (.mem reg (.postinc ix offset7)) s

def execCpl2cPredec (reg : Reg) (ix : Ix) (field7 : BitVec 7) (s : State) : Result :=
  runAlu aluCpl2c (.mem reg (.predec ix field7)) s

def execCpl2cR3 (reg : Reg) (ix : Ix) (s : State) : Result := runAlu aluCpl2c (.mem reg (.r3 ix)) s

def execCpl2cReg2 (regi : Reg) (regj : Reg) (s : State) : Result := runAlu aluCpl2c (.regs regi regj .a) s

/-! ### `CMP` (R213) -/

def execCmpDirect (reg : Reg) (addr : Byte) (s : State) : Result := runAlu aluCmp (.mem reg (.direct addr)) s

def execCmpIndexed (reg : Reg) (ix : Ix) (offset8 : Byte) (s : State) : Result :=
  runAlu aluCmp (.mem reg (.indexed ix offset8)) s

def execCmpPostinc (reg : Reg) (ix : Ix) (offset7 : BitVec 7) (s : State) : Result :=
  runAlu aluCmp (.mem reg (.postinc ix offset7)) s

def execCmpPredec (reg : Reg) (ix : Ix) (field7 : BitVec 7) (s : State) : Result :=
  runAlu aluCmp (.mem reg (.predec ix field7)) s

def execCmpR3 (reg : Reg) (ix : Ix) (s : State) : Result := runAlu aluCmp (.mem reg (.r3 ix)) s

def execCmpImm (reg : Reg) (data : Byte) (s : State) : Result := runAlu aluCmp (.imm reg data) s

def execCmpRegs (regd : Reg) (regs : Reg) (s : State) : Result := runAlu aluCmp (.regs regd regs regd) s

/-! ### `CMPA` (R214) -/

def execCmpaDirect (reg : Reg) (addr : Byte) (s : State) : Result := runAlu aluCmpa (.mem reg (.direct addr)) s

def execCmpaIndexed (reg : Reg) (ix : Ix) (offset8 : Byte) (s : State) : Result :=
  runAlu aluCmpa (.mem reg (.indexed ix offset8)) s

def execCmpaPostinc (reg : Reg) (ix : Ix) (offset7 : BitVec 7) (s : State) : Result :=
  runAlu aluCmpa (.mem reg (.postinc ix offset7)) s

def execCmpaPredec (reg : Reg) (ix : Ix) (field7 : BitVec 7) (s : State) : Result :=
  runAlu aluCmpa (.mem reg (.predec ix field7)) s

def execCmpaR3 (reg : Reg) (ix : Ix) (s : State) : Result := runAlu aluCmpa (.mem reg (.r3 ix)) s

def execCmpaImm (reg : Reg) (data : Byte) (s : State) : Result := runAlu aluCmpa (.imm reg data) s

def execCmpaRegs (regd : Reg) (regs : Reg) (s : State) : Result := runAlu aluCmpa (.regs regd regs regd) s

/-! ### `MUL` (R215) -/

def execMulDirect (reg : Reg) (addr : Byte) (s : State) : Result := runAlu aluMul (.mem reg (.direct addr)) s

def execMulIndexed (reg : Reg) (ix : Ix) (offset8 : Byte) (s : State) : Result :=
  runAlu aluMul (.mem reg (.indexed ix offset8)) s

def execMulPostinc (reg : Reg) (ix : Ix) (offset7 : BitVec 7) (s : State) : Result :=
  runAlu aluMul (.mem reg (.postinc ix offset7)) s

def execMulPredec (reg : Reg) (ix : Ix) (field7 : BitVec 7) (s : State) : Result :=
  runAlu aluMul (.mem reg (.predec ix field7)) s

def execMulR3 (reg : Reg) (ix : Ix) (s : State) : Result := runAlu aluMul (.mem reg (.r3 ix)) s

def execMulImm (reg : Reg) (data : Byte) (s : State) : Result := runAlu aluMul (.imm reg data) s

def execMulReg3 (regi : Reg) (regj : Reg) (regk : Reg) (s : State) : Result := runAlu aluMul (.regs regi regj regk) s

/-! ### `MULA` (R216) -/

def execMulaDirect (reg : Reg) (addr : Byte) (s : State) : Result := runAlu aluMula (.mem reg (.direct addr)) s

def execMulaIndexed (reg : Reg) (ix : Ix) (offset8 : Byte) (s : State) : Result :=
  runAlu aluMula (.mem reg (.indexed ix offset8)) s

def execMulaPostinc (reg : Reg) (ix : Ix) (offset7 : BitVec 7) (s : State) : Result :=
  runAlu aluMula (.mem reg (.postinc ix offset7)) s

def execMulaPredec (reg : Reg) (ix : Ix) (field7 : BitVec 7) (s : State) : Result :=
  runAlu aluMula (.mem reg (.predec ix field7)) s

def execMulaR3 (reg : Reg) (ix : Ix) (s : State) : Result := runAlu aluMula (.mem reg (.r3 ix)) s

def execMulaImm (reg : Reg) (data : Byte) (s : State) : Result := runAlu aluMula (.imm reg data) s

def execMulaReg3 (regi : Reg) (regj : Reg) (regk : Reg) (s : State) : Result :=
  runAlu aluMula (.regs regi regj regk) s

end Sys2Proof.Machine
end

