-- ==== Sys2Proof/Machine/Branch.lean ====
section
/-! DEFINITION. The meanings of the branch, call, return and hardware-stack instructions (40_branch.md), one for each constructor. -/

namespace Sys2Proof.Machine

/-! ### `JUMP` (R152) -/

def execJumpAbs (target : Word) (s : State) : Result := runJump .always (.abs target) s

def execJumpIp (s : State) : Result := runJump .always .ip s

/-! ### `JCC` (R153) -/

def execJccAbs (target : Word) (s : State) : Result := runJump .cc (.abs target) s

def execJccIp (s : State) : Result := runJump .cc .ip s

/-! ### `JCS` (R154) -/

def execJcsAbs (target : Word) (s : State) : Result := runJump .cs (.abs target) s

def execJcsIp (s : State) : Result := runJump .cs .ip s

/-! ### `JVC` (R155) -/

def execJvcAbs (target : Word) (s : State) : Result := runJump .vc (.abs target) s

def execJvcIp (s : State) : Result := runJump .vc .ip s

/-! ### `JVS` (R156) -/

def execJvsAbs (target : Word) (s : State) : Result := runJump .vs (.abs target) s

def execJvsIp (s : State) : Result := runJump .vs .ip s

/-! ### `JZC` (R157) -/

def execJzcAbs (target : Word) (s : State) : Result := runJump .zc (.abs target) s

def execJzcIp (s : State) : Result := runJump .zc .ip s

/-! ### `JZS` (R158) -/

def execJzsAbs (target : Word) (s : State) : Result := runJump .zs (.abs target) s

def execJzsIp (s : State) : Result := runJump .zs .ip s

/-! ### `JEV` (R159) -/

def execJevAbs (target : Word) (s : State) : Result := runJump .ev (.abs target) s

def execJevIp (s : State) : Result := runJump .ev .ip s

/-! ### `CALL` (R160) -/

def execCallAbs (target : Word) (s : State) : Result := runCall (.abs target) s

def execCallIp (s : State) : Result := runCall .ip s

/-! ### `CALLS` (R161) -/

def execCallsAbs (target : Word) (s : State) : Result := runCalls (.abs target) s

def execCallsIp (s : State) : Result := runCalls .ip s

/-! ### `RET` (R162) -/

/-- R162 -/
def execRet (s : State) : Result :=
  match s.pop with
  | none => .fault .stackUnderflow
  | some (target, t) => .next (s.finish t target none)

/-! ### `RETI` (R163) -/

/-- R163 -/
def execReti (s : State) : Result :=
  match s.interruptReturn with
  | none => .fault .stackUnderflow
  | some t => .next t

/-! ### `PUSH` (R164) -/

/-- R164; `ip` written by a multiplication just before is refused (70_reset_and_hazards.md R378 d) -/
def execPush (s : State) : Result :=
  if s.hazard ipRegs then .refused .multiplierHazard
  else
    match s.push s.regs.ip with
    | none => .fault .stackOverflow
    | some t => .next (s.finish t s.nextPc none)

/-! ### `POP` (R165) -/

/-- R165 -/
def execPop (s : State) : Result :=
  match s.pop with
  | none => .fault .stackUnderflow
  | some (v, t) => .next (s.finish (t.setIp v) s.nextPc none)

end Sys2Proof.Machine
end

