-- ==== Sys2Proof/Machine/Logic.lean ====
section
/-! DEFINITION. The meanings of the logical, bit-test and shift instructions (43_logic_shift.md), one for each constructor. -/

namespace Sys2Proof.Machine

/-! ### `AND` (R240) -/

def execAndDirect (reg : Reg) (addr : Byte) (s : State) : Result := runAlu aluAnd (.mem reg (.direct addr)) s

def execAndIndexed (reg : Reg) (ix : Ix) (offset8 : Byte) (s : State) : Result :=
  runAlu aluAnd (.mem reg (.indexed ix offset8)) s

def execAndPostinc (reg : Reg) (ix : Ix) (offset7 : BitVec 7) (s : State) : Result :=
  runAlu aluAnd (.mem reg (.postinc ix offset7)) s

def execAndPredec (reg : Reg) (ix : Ix) (field7 : BitVec 7) (s : State) : Result :=
  runAlu aluAnd (.mem reg (.predec ix field7)) s

def execAndR3 (reg : Reg) (ix : Ix) (s : State) : Result := runAlu aluAnd (.mem reg (.r3 ix)) s

def execAndImm (reg : Reg) (data : Byte) (s : State) : Result := runAlu aluAnd (.imm reg data) s

def execAndReg3 (regi : Reg) (regj : Reg) (regk : Reg) (s : State) : Result := runAlu aluAnd (.regs regi regj regk) s

/-! ### `OR` (R241) -/

def execOrDirect (reg : Reg) (addr : Byte) (s : State) : Result := runAlu aluOr (.mem reg (.direct addr)) s

def execOrIndexed (reg : Reg) (ix : Ix) (offset8 : Byte) (s : State) : Result :=
  runAlu aluOr (.mem reg (.indexed ix offset8)) s

def execOrPostinc (reg : Reg) (ix : Ix) (offset7 : BitVec 7) (s : State) : Result :=
  runAlu aluOr (.mem reg (.postinc ix offset7)) s

def execOrPredec (reg : Reg) (ix : Ix) (field7 : BitVec 7) (s : State) : Result :=
  runAlu aluOr (.mem reg (.predec ix field7)) s

def execOrR3 (reg : Reg) (ix : Ix) (s : State) : Result := runAlu aluOr (.mem reg (.r3 ix)) s

def execOrImm (reg : Reg) (data : Byte) (s : State) : Result := runAlu aluOr (.imm reg data) s

def execOrReg3 (regi : Reg) (regj : Reg) (regk : Reg) (s : State) : Result := runAlu aluOr (.regs regi regj regk) s

/-! ### `XOR` (R242) -/

def execXorDirect (reg : Reg) (addr : Byte) (s : State) : Result := runAlu aluXor (.mem reg (.direct addr)) s

def execXorIndexed (reg : Reg) (ix : Ix) (offset8 : Byte) (s : State) : Result :=
  runAlu aluXor (.mem reg (.indexed ix offset8)) s

def execXorPostinc (reg : Reg) (ix : Ix) (offset7 : BitVec 7) (s : State) : Result :=
  runAlu aluXor (.mem reg (.postinc ix offset7)) s

def execXorPredec (reg : Reg) (ix : Ix) (field7 : BitVec 7) (s : State) : Result :=
  runAlu aluXor (.mem reg (.predec ix field7)) s

def execXorR3 (reg : Reg) (ix : Ix) (s : State) : Result := runAlu aluXor (.mem reg (.r3 ix)) s

def execXorImm (reg : Reg) (data : Byte) (s : State) : Result := runAlu aluXor (.imm reg data) s

def execXorReg3 (regi : Reg) (regj : Reg) (regk : Reg) (s : State) : Result := runAlu aluXor (.regs regi regj regk) s

/-! ### `CPL1` (R243) -/

def execCpl1Direct (reg : Reg) (addr : Byte) (s : State) : Result := runAlu aluCpl1 (.mem reg (.direct addr)) s

def execCpl1Indexed (reg : Reg) (ix : Ix) (offset8 : Byte) (s : State) : Result :=
  runAlu aluCpl1 (.mem reg (.indexed ix offset8)) s

def execCpl1Postinc (reg : Reg) (ix : Ix) (offset7 : BitVec 7) (s : State) : Result :=
  runAlu aluCpl1 (.mem reg (.postinc ix offset7)) s

def execCpl1Predec (reg : Reg) (ix : Ix) (field7 : BitVec 7) (s : State) : Result :=
  runAlu aluCpl1 (.mem reg (.predec ix field7)) s

def execCpl1R3 (reg : Reg) (ix : Ix) (s : State) : Result := runAlu aluCpl1 (.mem reg (.r3 ix)) s

def execCpl1Reg2 (regi : Reg) (regj : Reg) (s : State) : Result := runAlu aluCpl1 (.regs regi regj .a) s

/-! ### `TSTB` (R244) -/

def execTstbImm (reg : Reg) (data : Byte) (s : State) : Result := runAlu aluTstb (.imm reg data) s

/-! ### `SHL` (R245) -/

def execShlDirect (reg : Reg) (addr : Byte) (s : State) : Result := runAlu aluShl (.mem reg (.direct addr)) s

def execShlIndexed (reg : Reg) (ix : Ix) (offset8 : Byte) (s : State) : Result :=
  runAlu aluShl (.mem reg (.indexed ix offset8)) s

def execShlPostinc (reg : Reg) (ix : Ix) (offset7 : BitVec 7) (s : State) : Result :=
  runAlu aluShl (.mem reg (.postinc ix offset7)) s

def execShlPredec (reg : Reg) (ix : Ix) (field7 : BitVec 7) (s : State) : Result :=
  runAlu aluShl (.mem reg (.predec ix field7)) s

def execShlR3 (reg : Reg) (ix : Ix) (s : State) : Result := runAlu aluShl (.mem reg (.r3 ix)) s

def execShlReg2 (regi : Reg) (regj : Reg) (s : State) : Result := runAlu aluShl (.regs regi regj .a) s

/-! ### `SHLC` (R246) -/

def execShlcDirect (reg : Reg) (addr : Byte) (s : State) : Result := runAlu aluShlc (.mem reg (.direct addr)) s

def execShlcIndexed (reg : Reg) (ix : Ix) (offset8 : Byte) (s : State) : Result :=
  runAlu aluShlc (.mem reg (.indexed ix offset8)) s

def execShlcPostinc (reg : Reg) (ix : Ix) (offset7 : BitVec 7) (s : State) : Result :=
  runAlu aluShlc (.mem reg (.postinc ix offset7)) s

def execShlcPredec (reg : Reg) (ix : Ix) (field7 : BitVec 7) (s : State) : Result :=
  runAlu aluShlc (.mem reg (.predec ix field7)) s

def execShlcR3 (reg : Reg) (ix : Ix) (s : State) : Result := runAlu aluShlc (.mem reg (.r3 ix)) s

def execShlcReg2 (regi : Reg) (regj : Reg) (s : State) : Result := runAlu aluShlc (.regs regi regj .a) s

/-! ### `SHR` (R247) -/

def execShrDirect (reg : Reg) (addr : Byte) (s : State) : Result := runAlu aluShr (.mem reg (.direct addr)) s

def execShrIndexed (reg : Reg) (ix : Ix) (offset8 : Byte) (s : State) : Result :=
  runAlu aluShr (.mem reg (.indexed ix offset8)) s

def execShrPostinc (reg : Reg) (ix : Ix) (offset7 : BitVec 7) (s : State) : Result :=
  runAlu aluShr (.mem reg (.postinc ix offset7)) s

def execShrPredec (reg : Reg) (ix : Ix) (field7 : BitVec 7) (s : State) : Result :=
  runAlu aluShr (.mem reg (.predec ix field7)) s

def execShrR3 (reg : Reg) (ix : Ix) (s : State) : Result := runAlu aluShr (.mem reg (.r3 ix)) s

def execShrReg2 (regi : Reg) (regj : Reg) (s : State) : Result := runAlu aluShr (.regs regi regj .a) s

/-! ### `SHRC` (R248) -/

def execShrcDirect (reg : Reg) (addr : Byte) (s : State) : Result := runAlu aluShrc (.mem reg (.direct addr)) s

def execShrcIndexed (reg : Reg) (ix : Ix) (offset8 : Byte) (s : State) : Result :=
  runAlu aluShrc (.mem reg (.indexed ix offset8)) s

def execShrcPostinc (reg : Reg) (ix : Ix) (offset7 : BitVec 7) (s : State) : Result :=
  runAlu aluShrc (.mem reg (.postinc ix offset7)) s

def execShrcPredec (reg : Reg) (ix : Ix) (field7 : BitVec 7) (s : State) : Result :=
  runAlu aluShrc (.mem reg (.predec ix field7)) s

def execShrcR3 (reg : Reg) (ix : Ix) (s : State) : Result := runAlu aluShrc (.mem reg (.r3 ix)) s

def execShrcReg2 (regi : Reg) (regj : Reg) (s : State) : Result := runAlu aluShrc (.regs regi regj .a) s

/-! ### `SHRA` (R249) -/

def execShraDirect (reg : Reg) (addr : Byte) (s : State) : Result := runAlu aluShra (.mem reg (.direct addr)) s

def execShraIndexed (reg : Reg) (ix : Ix) (offset8 : Byte) (s : State) : Result :=
  runAlu aluShra (.mem reg (.indexed ix offset8)) s

def execShraPostinc (reg : Reg) (ix : Ix) (offset7 : BitVec 7) (s : State) : Result :=
  runAlu aluShra (.mem reg (.postinc ix offset7)) s

def execShraPredec (reg : Reg) (ix : Ix) (field7 : BitVec 7) (s : State) : Result :=
  runAlu aluShra (.mem reg (.predec ix field7)) s

def execShraR3 (reg : Reg) (ix : Ix) (s : State) : Result := runAlu aluShra (.mem reg (.r3 ix)) s

def execShraReg2 (regi : Reg) (regj : Reg) (s : State) : Result := runAlu aluShra (.regs regi regj .a) s

end Sys2Proof.Machine
end

