-- ==== Sys2Proof/Machine/Special.lean ====
section
/-! DEFINITION. The meanings of the special instructions (44_special.md), one for each constructor. -/

namespace Sys2Proof.Machine

/-! ### `SFLAG` (R270) -/

/-- The byte `SFLAG` leaves in `a`; its low bits are free (R270, 93 U5). -/
def State.savedFlags (s : State) : Byte :=
  BitVec.ofBool s.flags.c ++ BitVec.ofBool (s.flags.c ^^ s.flags.v) ++ BitVec.ofBool s.stackFull ++
    BitVec.ofBool s.stackEmpty ++ Config.freeNibble s.draws

/-- R270; Z is free (93 U3) -/
def execSflag (s : State) : Result :=
  .next
    (s.finish
      { s.setReg .a s.savedFlags with
        flags := { s.flags with z := Config.freeBit s.draws }, draws := s.draws + 1 }
      s.nextPc none)

/-! ### `FREQ` (R271) -/

/-- R271; the reserved ratios are refused (30_encoding.md R144) -/
def execFreq (divn : BitVec 4) (s : State) : Result :=
  if divnDefined divn then .next (s.finish { s with freqOut := divn } s.nextPc none)
  else .refused .reservedDivn

/-! ### `HALT` (R272) -/

/-- R272; where the instruction before has just set an event bit or an unmasked request bit, a free bit decides whether the
core stays halted until a pin is asserted (93 U16, log 20) -/
def execHalt (s : State) : Result :=
  let t := s.finish s s.nextPc none
  if s.wakes s.statCtl then .next t
  else if s.wakeUpJustSet then
    .next { t with halted := true, haltHeld := Config.freeBit s.draws, draws := s.draws + 1 }
  else .next { t with halted := true, haltHeld := false }

/-! ### `NOP` (R273) -/

/-- R273 -/
def execNop (s : State) : Result := .next (s.finish s s.nextPc none)

/-! ### `PMD` (R274) -/

/-- R274; `PMD #1` outside Test mode is refused (93 U10) -/
def execPmd (on : Bool) (s : State) : Result :=
  if on && !s.testEn then .refused .pmdOnInNormalMode
  else .next (s.finish { s with romMode := on } s.nextPc none)

end Sys2Proof.Machine
end

