-- ==== Sys2Proof/Machine/Transfer.lean ====
section
/-! DEFINITION. The meanings of the transfer instructions (41_transfer.md), one for each constructor. -/

namespace Sys2Proof.Machine

/-! ### `MOVE` (R180, R181, R182) -/

def execMoveDirect (reg : Reg) (addr : Byte) (s : State) : Result := runAlu aluMove (.mem reg (.direct addr)) s

def execMoveIndexed (reg : Reg) (ix : Ix) (offset8 : Byte) (s : State) : Result :=
  runAlu aluMove (.mem reg (.indexed ix offset8)) s

def execMovePostinc (reg : Reg) (ix : Ix) (offset7 : BitVec 7) (s : State) : Result :=
  runAlu aluMove (.mem reg (.postinc ix offset7)) s

def execMovePredec (reg : Reg) (ix : Ix) (field7 : BitVec 7) (s : State) : Result :=
  runAlu aluMove (.mem reg (.predec ix field7)) s

def execMoveR3 (reg : Reg) (ix : Ix) (s : State) : Result := runAlu aluMove (.mem reg (.r3 ix)) s

def execMoveImm (reg : Reg) (data : Byte) (s : State) : Result := runAlu aluMove (.imm reg data) s

def execMoveReg2 (regi : Reg) (regj : Reg) (s : State) : Result := runAlu aluMove (.regs regi regj .a) s

def execMoveToDirect (reg : Reg) (addr : Byte) (s : State) : Result := runStore reg (.direct addr) s

def execMoveToIndexed (reg : Reg) (ix : Ix) (offset8 : Byte) (s : State) : Result :=
  runStore reg (.indexed ix offset8) s

def execMoveToPostinc (reg : Reg) (ix : Ix) (offset7 : BitVec 7) (s : State) : Result :=
  runStore reg (.postinc ix offset7) s

def execMoveToPredec (reg : Reg) (ix : Ix) (field7 : BitVec 7) (s : State) : Result :=
  runStore reg (.predec ix field7) s

def execMoveToR3 (reg : Reg) (ix : Ix) (s : State) : Result := runStore reg (.r3 ix) s

/-- The store of an immediate to page 0 (41_transfer.md R182). -/
def execMoveToDirectImm (addr data : Byte) (s : State) : Result :=
  .next (storeNext data (.direct addr) s)

/-! ### `CMVD` (R183) -/

def execCmvdDirect (reg : Reg) (addr : Byte) (s : State) : Result := runAlu aluCmvd (.mem reg (.direct addr)) s

def execCmvdIndexed (reg : Reg) (ix : Ix) (offset8 : Byte) (s : State) : Result :=
  runAlu aluCmvd (.mem reg (.indexed ix offset8)) s

def execCmvdPostinc (reg : Reg) (ix : Ix) (offset7 : BitVec 7) (s : State) : Result :=
  runAlu aluCmvd (.mem reg (.postinc ix offset7)) s

def execCmvdPredec (reg : Reg) (ix : Ix) (field7 : BitVec 7) (s : State) : Result :=
  runAlu aluCmvd (.mem reg (.predec ix field7)) s

def execCmvdR3 (reg : Reg) (ix : Ix) (s : State) : Result := runAlu aluCmvd (.mem reg (.r3 ix)) s

def execCmvdReg2 (regi : Reg) (regj : Reg) (s : State) : Result := runAlu aluCmvd (.regs regi regj .a) s

/-! ### `CMVS` (R184) -/

def execCmvsDirect (reg : Reg) (addr : Byte) (s : State) : Result := runAlu aluCmvs (.mem reg (.direct addr)) s

def execCmvsIndexed (reg : Reg) (ix : Ix) (offset8 : Byte) (s : State) : Result :=
  runAlu aluCmvs (.mem reg (.indexed ix offset8)) s

def execCmvsPostinc (reg : Reg) (ix : Ix) (offset7 : BitVec 7) (s : State) : Result :=
  runAlu aluCmvs (.mem reg (.postinc ix offset7)) s

def execCmvsPredec (reg : Reg) (ix : Ix) (field7 : BitVec 7) (s : State) : Result :=
  runAlu aluCmvs (.mem reg (.predec ix field7)) s

def execCmvsR3 (reg : Reg) (ix : Ix) (s : State) : Result := runAlu aluCmvs (.mem reg (.r3 ix)) s

def execCmvsReg2 (regi : Reg) (regj : Reg) (s : State) : Result := runAlu aluCmvs (.regs regi regj .a) s

end Sys2Proof.Machine
end

