-- ==== Sys2Proof/Machine/Dispatch.lean ====
section
/-! DEFINITION. Which meaning each instruction has: one arm for each constructor of `Instr`. -/

namespace Sys2Proof.Machine

def exec (i : Instr) (s : State) : Host.Outcome State Fault Refusal :=
  match i with
  | .addDirect reg addr => Sys2Proof.Machine.execAddDirect reg addr s
  | .addIndexed reg ix offset8 => Sys2Proof.Machine.execAddIndexed reg ix offset8 s
  | .addPostinc reg ix offset7 => Sys2Proof.Machine.execAddPostinc reg ix offset7 s
  | .addPredec reg ix field7 => Sys2Proof.Machine.execAddPredec reg ix field7 s
  | .addR3 reg ix => Sys2Proof.Machine.execAddR3 reg ix s
  | .addImm reg data => Sys2Proof.Machine.execAddImm reg data s
  | .addReg3 regi regj regk => Sys2Proof.Machine.execAddReg3 regi regj regk s
  | .addcDirect reg addr => Sys2Proof.Machine.execAddcDirect reg addr s
  | .addcIndexed reg ix offset8 => Sys2Proof.Machine.execAddcIndexed reg ix offset8 s
  | .addcPostinc reg ix offset7 => Sys2Proof.Machine.execAddcPostinc reg ix offset7 s
  | .addcPredec reg ix field7 => Sys2Proof.Machine.execAddcPredec reg ix field7 s
  | .addcR3 reg ix => Sys2Proof.Machine.execAddcR3 reg ix s
  | .addcImm reg data => Sys2Proof.Machine.execAddcImm reg data s
  | .addcReg3 regi regj regk => Sys2Proof.Machine.execAddcReg3 regi regj regk s
  | .andDirect reg addr => Sys2Proof.Machine.execAndDirect reg addr s
  | .andIndexed reg ix offset8 => Sys2Proof.Machine.execAndIndexed reg ix offset8 s
  | .andPostinc reg ix offset7 => Sys2Proof.Machine.execAndPostinc reg ix offset7 s
  | .andPredec reg ix field7 => Sys2Proof.Machine.execAndPredec reg ix field7 s
  | .andR3 reg ix => Sys2Proof.Machine.execAndR3 reg ix s
  | .andImm reg data => Sys2Proof.Machine.execAndImm reg data s
  | .andReg3 regi regj regk => Sys2Proof.Machine.execAndReg3 regi regj regk s
  | .cmpDirect reg addr => Sys2Proof.Machine.execCmpDirect reg addr s
  | .cmpIndexed reg ix offset8 => Sys2Proof.Machine.execCmpIndexed reg ix offset8 s
  | .cmpPostinc reg ix offset7 => Sys2Proof.Machine.execCmpPostinc reg ix offset7 s
  | .cmpPredec reg ix field7 => Sys2Proof.Machine.execCmpPredec reg ix field7 s
  | .cmpR3 reg ix => Sys2Proof.Machine.execCmpR3 reg ix s
  | .cmpImm reg data => Sys2Proof.Machine.execCmpImm reg data s
  | .cmpRegs regd regs => Sys2Proof.Machine.execCmpRegs regd regs s
  | .cmpaDirect reg addr => Sys2Proof.Machine.execCmpaDirect reg addr s
  | .cmpaIndexed reg ix offset8 => Sys2Proof.Machine.execCmpaIndexed reg ix offset8 s
  | .cmpaPostinc reg ix offset7 => Sys2Proof.Machine.execCmpaPostinc reg ix offset7 s
  | .cmpaPredec reg ix field7 => Sys2Proof.Machine.execCmpaPredec reg ix field7 s
  | .cmpaR3 reg ix => Sys2Proof.Machine.execCmpaR3 reg ix s
  | .cmpaImm reg data => Sys2Proof.Machine.execCmpaImm reg data s
  | .cmpaRegs regd regs => Sys2Proof.Machine.execCmpaRegs regd regs s
  | .cmvdDirect reg addr => Sys2Proof.Machine.execCmvdDirect reg addr s
  | .cmvdIndexed reg ix offset8 => Sys2Proof.Machine.execCmvdIndexed reg ix offset8 s
  | .cmvdPostinc reg ix offset7 => Sys2Proof.Machine.execCmvdPostinc reg ix offset7 s
  | .cmvdPredec reg ix field7 => Sys2Proof.Machine.execCmvdPredec reg ix field7 s
  | .cmvdR3 reg ix => Sys2Proof.Machine.execCmvdR3 reg ix s
  | .cmvdReg2 regi regj => Sys2Proof.Machine.execCmvdReg2 regi regj s
  | .cmvsDirect reg addr => Sys2Proof.Machine.execCmvsDirect reg addr s
  | .cmvsIndexed reg ix offset8 => Sys2Proof.Machine.execCmvsIndexed reg ix offset8 s
  | .cmvsPostinc reg ix offset7 => Sys2Proof.Machine.execCmvsPostinc reg ix offset7 s
  | .cmvsPredec reg ix field7 => Sys2Proof.Machine.execCmvsPredec reg ix field7 s
  | .cmvsR3 reg ix => Sys2Proof.Machine.execCmvsR3 reg ix s
  | .cmvsReg2 regi regj => Sys2Proof.Machine.execCmvsReg2 regi regj s
  | .cpl1Direct reg addr => Sys2Proof.Machine.execCpl1Direct reg addr s
  | .cpl1Indexed reg ix offset8 => Sys2Proof.Machine.execCpl1Indexed reg ix offset8 s
  | .cpl1Postinc reg ix offset7 => Sys2Proof.Machine.execCpl1Postinc reg ix offset7 s
  | .cpl1Predec reg ix field7 => Sys2Proof.Machine.execCpl1Predec reg ix field7 s
  | .cpl1R3 reg ix => Sys2Proof.Machine.execCpl1R3 reg ix s
  | .cpl1Reg2 regi regj => Sys2Proof.Machine.execCpl1Reg2 regi regj s
  | .cpl2Direct reg addr => Sys2Proof.Machine.execCpl2Direct reg addr s
  | .cpl2Indexed reg ix offset8 => Sys2Proof.Machine.execCpl2Indexed reg ix offset8 s
  | .cpl2Postinc reg ix offset7 => Sys2Proof.Machine.execCpl2Postinc reg ix offset7 s
  | .cpl2Predec reg ix field7 => Sys2Proof.Machine.execCpl2Predec reg ix field7 s
  | .cpl2R3 reg ix => Sys2Proof.Machine.execCpl2R3 reg ix s
  | .cpl2Reg2 regi regj => Sys2Proof.Machine.execCpl2Reg2 regi regj s
  | .cpl2cDirect reg addr => Sys2Proof.Machine.execCpl2cDirect reg addr s
  | .cpl2cIndexed reg ix offset8 => Sys2Proof.Machine.execCpl2cIndexed reg ix offset8 s
  | .cpl2cPostinc reg ix offset7 => Sys2Proof.Machine.execCpl2cPostinc reg ix offset7 s
  | .cpl2cPredec reg ix field7 => Sys2Proof.Machine.execCpl2cPredec reg ix field7 s
  | .cpl2cR3 reg ix => Sys2Proof.Machine.execCpl2cR3 reg ix s
  | .cpl2cReg2 regi regj => Sys2Proof.Machine.execCpl2cReg2 regi regj s
  | .decDirect reg addr => Sys2Proof.Machine.execDecDirect reg addr s
  | .decIndexed reg ix offset8 => Sys2Proof.Machine.execDecIndexed reg ix offset8 s
  | .decPostinc reg ix offset7 => Sys2Proof.Machine.execDecPostinc reg ix offset7 s
  | .decPredec reg ix field7 => Sys2Proof.Machine.execDecPredec reg ix field7 s
  | .decR3 reg ix => Sys2Proof.Machine.execDecR3 reg ix s
  | .decReg2 regi regj => Sys2Proof.Machine.execDecReg2 regi regj s
  | .deccDirect reg addr => Sys2Proof.Machine.execDeccDirect reg addr s
  | .deccIndexed reg ix offset8 => Sys2Proof.Machine.execDeccIndexed reg ix offset8 s
  | .deccPostinc reg ix offset7 => Sys2Proof.Machine.execDeccPostinc reg ix offset7 s
  | .deccPredec reg ix field7 => Sys2Proof.Machine.execDeccPredec reg ix field7 s
  | .deccR3 reg ix => Sys2Proof.Machine.execDeccR3 reg ix s
  | .deccReg2 regi regj => Sys2Proof.Machine.execDeccReg2 regi regj s
  | .incDirect reg addr => Sys2Proof.Machine.execIncDirect reg addr s
  | .incIndexed reg ix offset8 => Sys2Proof.Machine.execIncIndexed reg ix offset8 s
  | .incPostinc reg ix offset7 => Sys2Proof.Machine.execIncPostinc reg ix offset7 s
  | .incPredec reg ix field7 => Sys2Proof.Machine.execIncPredec reg ix field7 s
  | .incR3 reg ix => Sys2Proof.Machine.execIncR3 reg ix s
  | .incReg2 regi regj => Sys2Proof.Machine.execIncReg2 regi regj s
  | .inccDirect reg addr => Sys2Proof.Machine.execInccDirect reg addr s
  | .inccIndexed reg ix offset8 => Sys2Proof.Machine.execInccIndexed reg ix offset8 s
  | .inccPostinc reg ix offset7 => Sys2Proof.Machine.execInccPostinc reg ix offset7 s
  | .inccPredec reg ix field7 => Sys2Proof.Machine.execInccPredec reg ix field7 s
  | .inccR3 reg ix => Sys2Proof.Machine.execInccR3 reg ix s
  | .inccReg2 regi regj => Sys2Proof.Machine.execInccReg2 regi regj s
  | .moveDirect reg addr => Sys2Proof.Machine.execMoveDirect reg addr s
  | .moveIndexed reg ix offset8 => Sys2Proof.Machine.execMoveIndexed reg ix offset8 s
  | .movePostinc reg ix offset7 => Sys2Proof.Machine.execMovePostinc reg ix offset7 s
  | .movePredec reg ix field7 => Sys2Proof.Machine.execMovePredec reg ix field7 s
  | .moveR3 reg ix => Sys2Proof.Machine.execMoveR3 reg ix s
  | .moveImm reg data => Sys2Proof.Machine.execMoveImm reg data s
  | .moveReg2 regi regj => Sys2Proof.Machine.execMoveReg2 regi regj s
  | .moveToDirect reg addr => Sys2Proof.Machine.execMoveToDirect reg addr s
  | .moveToIndexed reg ix offset8 => Sys2Proof.Machine.execMoveToIndexed reg ix offset8 s
  | .moveToPostinc reg ix offset7 => Sys2Proof.Machine.execMoveToPostinc reg ix offset7 s
  | .moveToPredec reg ix field7 => Sys2Proof.Machine.execMoveToPredec reg ix field7 s
  | .moveToR3 reg ix => Sys2Proof.Machine.execMoveToR3 reg ix s
  | .moveToDirectImm addr data => Sys2Proof.Machine.execMoveToDirectImm addr data s
  | .mulDirect reg addr => Sys2Proof.Machine.execMulDirect reg addr s
  | .mulIndexed reg ix offset8 => Sys2Proof.Machine.execMulIndexed reg ix offset8 s
  | .mulPostinc reg ix offset7 => Sys2Proof.Machine.execMulPostinc reg ix offset7 s
  | .mulPredec reg ix field7 => Sys2Proof.Machine.execMulPredec reg ix field7 s
  | .mulR3 reg ix => Sys2Proof.Machine.execMulR3 reg ix s
  | .mulImm reg data => Sys2Proof.Machine.execMulImm reg data s
  | .mulReg3 regi regj regk => Sys2Proof.Machine.execMulReg3 regi regj regk s
  | .mulaDirect reg addr => Sys2Proof.Machine.execMulaDirect reg addr s
  | .mulaIndexed reg ix offset8 => Sys2Proof.Machine.execMulaIndexed reg ix offset8 s
  | .mulaPostinc reg ix offset7 => Sys2Proof.Machine.execMulaPostinc reg ix offset7 s
  | .mulaPredec reg ix field7 => Sys2Proof.Machine.execMulaPredec reg ix field7 s
  | .mulaR3 reg ix => Sys2Proof.Machine.execMulaR3 reg ix s
  | .mulaImm reg data => Sys2Proof.Machine.execMulaImm reg data s
  | .mulaReg3 regi regj regk => Sys2Proof.Machine.execMulaReg3 regi regj regk s
  | .orDirect reg addr => Sys2Proof.Machine.execOrDirect reg addr s
  | .orIndexed reg ix offset8 => Sys2Proof.Machine.execOrIndexed reg ix offset8 s
  | .orPostinc reg ix offset7 => Sys2Proof.Machine.execOrPostinc reg ix offset7 s
  | .orPredec reg ix field7 => Sys2Proof.Machine.execOrPredec reg ix field7 s
  | .orR3 reg ix => Sys2Proof.Machine.execOrR3 reg ix s
  | .orImm reg data => Sys2Proof.Machine.execOrImm reg data s
  | .orReg3 regi regj regk => Sys2Proof.Machine.execOrReg3 regi regj regk s
  | .shlDirect reg addr => Sys2Proof.Machine.execShlDirect reg addr s
  | .shlIndexed reg ix offset8 => Sys2Proof.Machine.execShlIndexed reg ix offset8 s
  | .shlPostinc reg ix offset7 => Sys2Proof.Machine.execShlPostinc reg ix offset7 s
  | .shlPredec reg ix field7 => Sys2Proof.Machine.execShlPredec reg ix field7 s
  | .shlR3 reg ix => Sys2Proof.Machine.execShlR3 reg ix s
  | .shlReg2 regi regj => Sys2Proof.Machine.execShlReg2 regi regj s
  | .shlcDirect reg addr => Sys2Proof.Machine.execShlcDirect reg addr s
  | .shlcIndexed reg ix offset8 => Sys2Proof.Machine.execShlcIndexed reg ix offset8 s
  | .shlcPostinc reg ix offset7 => Sys2Proof.Machine.execShlcPostinc reg ix offset7 s
  | .shlcPredec reg ix field7 => Sys2Proof.Machine.execShlcPredec reg ix field7 s
  | .shlcR3 reg ix => Sys2Proof.Machine.execShlcR3 reg ix s
  | .shlcReg2 regi regj => Sys2Proof.Machine.execShlcReg2 regi regj s
  | .shrDirect reg addr => Sys2Proof.Machine.execShrDirect reg addr s
  | .shrIndexed reg ix offset8 => Sys2Proof.Machine.execShrIndexed reg ix offset8 s
  | .shrPostinc reg ix offset7 => Sys2Proof.Machine.execShrPostinc reg ix offset7 s
  | .shrPredec reg ix field7 => Sys2Proof.Machine.execShrPredec reg ix field7 s
  | .shrR3 reg ix => Sys2Proof.Machine.execShrR3 reg ix s
  | .shrReg2 regi regj => Sys2Proof.Machine.execShrReg2 regi regj s
  | .shraDirect reg addr => Sys2Proof.Machine.execShraDirect reg addr s
  | .shraIndexed reg ix offset8 => Sys2Proof.Machine.execShraIndexed reg ix offset8 s
  | .shraPostinc reg ix offset7 => Sys2Proof.Machine.execShraPostinc reg ix offset7 s
  | .shraPredec reg ix field7 => Sys2Proof.Machine.execShraPredec reg ix field7 s
  | .shraR3 reg ix => Sys2Proof.Machine.execShraR3 reg ix s
  | .shraReg2 regi regj => Sys2Proof.Machine.execShraReg2 regi regj s
  | .shrcDirect reg addr => Sys2Proof.Machine.execShrcDirect reg addr s
  | .shrcIndexed reg ix offset8 => Sys2Proof.Machine.execShrcIndexed reg ix offset8 s
  | .shrcPostinc reg ix offset7 => Sys2Proof.Machine.execShrcPostinc reg ix offset7 s
  | .shrcPredec reg ix field7 => Sys2Proof.Machine.execShrcPredec reg ix field7 s
  | .shrcR3 reg ix => Sys2Proof.Machine.execShrcR3 reg ix s
  | .shrcReg2 regi regj => Sys2Proof.Machine.execShrcReg2 regi regj s
  | .subdDirect reg addr => Sys2Proof.Machine.execSubdDirect reg addr s
  | .subdIndexed reg ix offset8 => Sys2Proof.Machine.execSubdIndexed reg ix offset8 s
  | .subdPostinc reg ix offset7 => Sys2Proof.Machine.execSubdPostinc reg ix offset7 s
  | .subdPredec reg ix field7 => Sys2Proof.Machine.execSubdPredec reg ix field7 s
  | .subdR3 reg ix => Sys2Proof.Machine.execSubdR3 reg ix s
  | .subdImm reg data => Sys2Proof.Machine.execSubdImm reg data s
  | .subdReg3 regi regj regk => Sys2Proof.Machine.execSubdReg3 regi regj regk s
  | .subdcDirect reg addr => Sys2Proof.Machine.execSubdcDirect reg addr s
  | .subdcIndexed reg ix offset8 => Sys2Proof.Machine.execSubdcIndexed reg ix offset8 s
  | .subdcPostinc reg ix offset7 => Sys2Proof.Machine.execSubdcPostinc reg ix offset7 s
  | .subdcPredec reg ix field7 => Sys2Proof.Machine.execSubdcPredec reg ix field7 s
  | .subdcR3 reg ix => Sys2Proof.Machine.execSubdcR3 reg ix s
  | .subdcImm reg data => Sys2Proof.Machine.execSubdcImm reg data s
  | .subdcReg3 regi regj regk => Sys2Proof.Machine.execSubdcReg3 regi regj regk s
  | .subsDirect reg addr => Sys2Proof.Machine.execSubsDirect reg addr s
  | .subsIndexed reg ix offset8 => Sys2Proof.Machine.execSubsIndexed reg ix offset8 s
  | .subsPostinc reg ix offset7 => Sys2Proof.Machine.execSubsPostinc reg ix offset7 s
  | .subsPredec reg ix field7 => Sys2Proof.Machine.execSubsPredec reg ix field7 s
  | .subsR3 reg ix => Sys2Proof.Machine.execSubsR3 reg ix s
  | .subsImm reg data => Sys2Proof.Machine.execSubsImm reg data s
  | .subsReg3 regi regj regk => Sys2Proof.Machine.execSubsReg3 regi regj regk s
  | .subscDirect reg addr => Sys2Proof.Machine.execSubscDirect reg addr s
  | .subscIndexed reg ix offset8 => Sys2Proof.Machine.execSubscIndexed reg ix offset8 s
  | .subscPostinc reg ix offset7 => Sys2Proof.Machine.execSubscPostinc reg ix offset7 s
  | .subscPredec reg ix field7 => Sys2Proof.Machine.execSubscPredec reg ix field7 s
  | .subscR3 reg ix => Sys2Proof.Machine.execSubscR3 reg ix s
  | .subscImm reg data => Sys2Proof.Machine.execSubscImm reg data s
  | .subscReg3 regi regj regk => Sys2Proof.Machine.execSubscReg3 regi regj regk s
  | .xorDirect reg addr => Sys2Proof.Machine.execXorDirect reg addr s
  | .xorIndexed reg ix offset8 => Sys2Proof.Machine.execXorIndexed reg ix offset8 s
  | .xorPostinc reg ix offset7 => Sys2Proof.Machine.execXorPostinc reg ix offset7 s
  | .xorPredec reg ix field7 => Sys2Proof.Machine.execXorPredec reg ix field7 s
  | .xorR3 reg ix => Sys2Proof.Machine.execXorR3 reg ix s
  | .xorImm reg data => Sys2Proof.Machine.execXorImm reg data s
  | .xorReg3 regi regj regk => Sys2Proof.Machine.execXorReg3 regi regj regk s
  | .tstbImm reg data => Sys2Proof.Machine.execTstbImm reg data s
  | .jccAbs target => Sys2Proof.Machine.execJccAbs target s
  | .jccIp => Sys2Proof.Machine.execJccIp s
  | .jvcAbs target => Sys2Proof.Machine.execJvcAbs target s
  | .jvcIp => Sys2Proof.Machine.execJvcIp s
  | .jzcAbs target => Sys2Proof.Machine.execJzcAbs target s
  | .jzcIp => Sys2Proof.Machine.execJzcIp s
  | .jumpAbs target => Sys2Proof.Machine.execJumpAbs target s
  | .jumpIp => Sys2Proof.Machine.execJumpIp s
  | .jcsAbs target => Sys2Proof.Machine.execJcsAbs target s
  | .jcsIp => Sys2Proof.Machine.execJcsIp s
  | .jvsAbs target => Sys2Proof.Machine.execJvsAbs target s
  | .jvsIp => Sys2Proof.Machine.execJvsIp s
  | .jzsAbs target => Sys2Proof.Machine.execJzsAbs target s
  | .jzsIp => Sys2Proof.Machine.execJzsIp s
  | .jevAbs target => Sys2Proof.Machine.execJevAbs target s
  | .jevIp => Sys2Proof.Machine.execJevIp s
  | .callAbs target => Sys2Proof.Machine.execCallAbs target s
  | .callIp => Sys2Proof.Machine.execCallIp s
  | .callsAbs target => Sys2Proof.Machine.execCallsAbs target s
  | .callsIp => Sys2Proof.Machine.execCallsIp s
  | .ret => Sys2Proof.Machine.execRet s
  | .reti => Sys2Proof.Machine.execReti s
  | .pop => Sys2Proof.Machine.execPop s
  | .push => Sys2Proof.Machine.execPush s
  | .nop => Sys2Proof.Machine.execNop s
  | .halt => Sys2Proof.Machine.execHalt s
  | .sflag => Sys2Proof.Machine.execSflag s
  | .pmd on => Sys2Proof.Machine.execPmd on s
  | .freq divn => Sys2Proof.Machine.execFreq divn s

end Sys2Proof.Machine
end

