-- ==== Sys2Proof/Machine/Step.lean ====
section
/-! DEFINITION. The step function (60_exceptions.md R330). -/

namespace Sys2Proof.Machine

/-- Step 7 of 60_exceptions.md R330: fetch, decode, execute. -/
def State.runInstruction (s : State) : Host.Outcome State Fault Refusal :=
  match s.instructionWord with
  | none => .fault .unpopulatedFetch
  | some w =>
    match decode w with
    | none => .fault .undefinedEncoding
    | some i => captureOutcome (exec i s)

/-- Steps 5 to 8 of 60_exceptions.md R330, the pins sampled: Halt mode, interrupt entry, or one instruction. DESIGN CHOICE
(logs 13 and 15): in an execute cycle of Test mode and in ROM mode interrupts and Halt mode act as in Normal mode; a
pending interrupt displaces the word that was shifted in, which the free capture then overwrites, and a core that stays
halted neither executes nor captures. The spec is silent there (R351, R353). -/
def State.runBoundary (s : State) : Host.Outcome State Fault Refusal :=
  if s.staysHalted then .next s.stayHalted
  else
    match s.leaveHalt.pending with
    | some k => .next (s.leaveHalt.interruptEntry k).capture
    | none => if s.leaveHalt.romMode then s.leaveHalt.romCycle else s.leaveHalt.runInstruction

/-- One step of the machine (60_exceptions.md R330); a cycle with `TestShift` high in Test mode only shifts (R351). DESIGN
CHOICE (log 13): `TestShift` high with `TestEn` low, which the spec rules out (00_scope.md R9, R360) and lets its model
refuse (93 U17), is ignored, and the step runs as in Normal mode. -/
def step (s : State) : Host.Outcome State Fault Refusal :=
  if s.nextInput.reset then .next s.takeInput.resetEvent
  else if s.nextInput.testEn && s.nextInput.testShift then .next (s.takeInput.shiftTest s.nextInput.testIn)
  else (s.takeInput.samplePins s.nextInput.pins).runBoundary

/-- The state with the word `w` in program memory at the pc, where the next step fetches. -/
def State.withFetchWord (s : State) (_nbits w : Nat) : State := s.loadAtPc (BitVec.ofNat 22 w)

end Sys2Proof.Machine
end

