-- ==== Sys2Proof/Safety.lean ====
section
/-! DEFINITION. The terms the statements use: the invariant of the machine, when the multiplier hazard is absent, what an
instruction leaves behind, and the arithmetic of the manual on numbers. -/

namespace Sys2Proof

/-- The function of an ALU-class operation. -/
def aluFn : AluOp → Machine.AluFn
  | .add => Machine.aluAdd
  | .addc => Machine.aluAddc
  | .subd => Machine.aluSubd
  | .subdc => Machine.aluSubdc
  | .subs => Machine.aluSubs
  | .subsc => Machine.aluSubsc
  | .inc => Machine.aluInc
  | .incc => Machine.aluIncc
  | .dec => Machine.aluDec
  | .decc => Machine.aluDecc
  | .cpl2 => Machine.aluCpl2
  | .cpl2c => Machine.aluCpl2c
  | .cmp => Machine.aluCmp
  | .cmpa => Machine.aluCmpa
  | .mul => Machine.aluMul
  | .mula => Machine.aluMula
  | .and => Machine.aluAnd
  | .or => Machine.aluOr
  | .xor => Machine.aluXor
  | .cpl1 => Machine.aluCpl1
  | .tstb => Machine.aluTstb
  | .shl => Machine.aluShl
  | .shlc => Machine.aluShlc
  | .shr => Machine.aluShr
  | .shrc => Machine.aluShrc
  | .shra => Machine.aluShra
  | .move => Machine.aluMove
  | .cmvd => Machine.aluCmvd
  | .cmvs => Machine.aluCmvs

/-- The bits of its word that an instruction ignores: bits 11 to 8 of a register shift, bits 3 to 0 of a register compare
(30_encoding.md R120, log 28). -/
def Instr.ignoredBits (i : Instr) : IWord :=
  match i with
  | .shlReg2 _ _ | .shlcReg2 _ _ | .shrReg2 _ _ | .shrcReg2 _ _ | .shraReg2 _ _ => 0x000F00#22
  | .cmpRegs _ _ | .cmpaRegs _ _ => 0x00000F#22
  | _ => 0#22

/-- The instruction is a store, at this operand. -/
def Instr.storeOperand (i : Instr) : Option EAddr :=
  match i with
  | .moveToDirect _ addr => some (.direct addr)
  | .moveToIndexed _ ix offset8 => some (.indexed ix offset8)
  | .moveToPostinc _ ix offset7 => some (.postinc ix offset7)
  | .moveToPredec _ ix field7 => some (.predec ix field7)
  | .moveToR3 _ ix => some (.r3 ix)
  | .moveToDirectImm addr _ => some (.direct addr)
  | _ => none

end Sys2Proof

namespace Sys2Proof.Machine

/-! ## The invariant -/

/-- What every step keeps: both memories in canonical form, the hardware stack as deep as the platform says and its counter
within it, and only a halted core held. -/
structure State.Inv (s : State) : Prop where
  dataMemory : Memory.wf s.dm = true
  programMemory : Memory.wf s.pm = true
  stackDepth : s.levels.length = s.platform.stackDepth
  stackCount : s.cnt ≤ s.platform.stackDepth
  held : s.haltHeld = true → s.halted = true

/-! ## Hypotheses -/

/-- The last instruction was no multiplication that wrote one of these registers (70_reset_and_hazards.md R378). -/
def State.HazardFree (s : State) (rs : List Reg) : Prop := ∀ r, s.mulShadow = some r → r ∉ rs

/-- No input asks for anything but an instruction: no reset and no shift cycle of the test interface. `TestShift` is ignored
while `TestEn` is low (log 13). -/
def State.RunsThisStep (s : State) : Prop :=
  s.nextInput.reset = false ∧ (s.nextInput.testEn = false ∨ s.nextInput.testShift = false)

/-- The state in which a step decides: the input taken, the pins sampled. -/
def State.atBoundary (s : State) : State := s.takeInput.samplePins s.nextInput.pins

/-- The condition of a `Jcc` holds (40_branch.md R151); `JEV` looks at the control view (R159). -/
def State.Holds (s : State) : Cond → Prop
  | .cc => s.flags.c = false
  | .vc => s.flags.v = false
  | .zc => s.flags.z = false
  | .always => True
  | .cs => s.flags.c = true
  | .vs => s.flags.v = true
  | .zs => s.flags.z = true
  | .ev => s.statCtl.getLsbD 0 = true ∨ s.statCtl.getLsbD 1 = true

/-- Where a jump or call goes (40_branch.md R150). -/
def State.destination (s : State) : Target → Word
  | .abs addr => addr
  | .ip => s.reg .iph ++ s.reg .ipl

/-- An event bit or a masked request is active in this view of `stat` (44_special.md R272, 60_exceptions.md R345). -/
def State.Wakeful (s : State) (ctl : Byte) : Prop :=
  ctl.getLsbD 0 = true ∨ ctl.getLsbD 1 = true ∨ ∃ k, s.request ctl k = true

/-- A bit that `stat` holds and its control view does not yet: the instruction before has set it (60_exceptions.md R318). -/
def State.JustSet (s : State) (bit : Nat) : Prop := (s.reg .stat).getLsbD bit = true ∧ s.statCtl.getLsbD bit = false

/-- The instruction before has set an event bit, or the request bit of a level that is unmasked (60_exceptions.md R345, 93
U16). -/
def State.WakeUpJustSet (s : State) : Prop :=
  s.JustSet 0 ∨ s.JustSet 1 ∨ ∃ k, s.request (s.reg .stat) k = true ∧ s.JustSet k.requestBit

/-! ## What an instruction leaves behind -/

/-- The end of an instruction that began in `s`: `t`, the pc `p`, the control view equal to the old `stat`, no
multiplication pending. -/
def State.endsAt (s t : State) (p : Word) : State :=
  { t with pc := p, statCtl := s.regs.stat, mulShadow := none }

/-- The registers after the index update of a form, modulo 65536 (20_memory.md R83, R84). -/
def State.regsAfterIndex (s : State) : AluForm → Regs
  | .mem _ (.postinc ix offset) =>
    s.regs.setPair ix (BitVec.ofNat 16 ((s.regs.pair ix).toNat + offset.toNat))
  | .mem _ (.predec ix field) =>
    s.regs.setPair ix (BitVec.ofInt 16 ((s.regs.pair ix).toNat + (field.toNat : Int) - 128))
  | .mem _ (.direct _) | .mem _ (.indexed _ _) | .mem _ (.r3 _) | .imm _ _ | .regs _ _ _ => s.regs

/-- The state an ALU-class instruction ends in, for the answer `o` of its operation: first the index, then the
destination, then `a` (20_memory.md R86, 30_encoding.md R131). Every field not named keeps its value. -/
def State.afterAlu (s : State) (form : AluForm) (o : AluOut) : State :=
  let rs := s.regsAfterIndex form
  { s with
    regs := (if o.write then rs.set form.dest o.result else rs).set .a o.acc
    flags := o.flags
    draws := s.draws + s.operandDraws form + o.drawn
    pc := s.pc + 1
    statCtl := s.regs.stat
    mulShadow := if o.mul then some form.dest else none }

/-- Every form of the operation completes, with the answer `g` gives for op1, op2, the flags before and the number of free
values drawn before. -/
def Answers (op : AluOp) (g : AluFn) : Prop :=
  ∀ (form : AluForm) (i : Instr) (s : State),
    Instr.ofAlu op form = some i → s.HazardFree form.sources →
    exec i s = .next (s.afterAlu form (g (s.op1 form) (s.op2 form) s.flags (s.draws + s.operandDraws form)))

/-! ## The arithmetic of the manual on numbers -/

/-- C as a number. -/
def carryNat (f : Flags) : Nat := if f.c then 1 else 0

/-- A number outside the signed 8-bit range. -/
def overflows (n : Int) : Bool := decide (n < -128 ∨ 127 < n)

/-- An operation that gives its result to the destination and to `a`, and these flags. -/
def writesBoth (result : Byte) (c v : Bool) : AluOut :=
  { result := result, acc := result, flags := ⟨c, v, result == 0⟩, write := true, mul := false, drawn := 0 }

/-- An operation that gives its result to the destination and to `a`, and Z; C and V stay. -/
def writesZ (result : Byte) (f : Flags) : AluOut :=
  { result := result, acc := result, flags := ⟨f.c, f.v, result == 0⟩, write := true, mul := false, drawn := 0 }

/-- `x + y + k`: C is the carry out of bit 7, V the signed overflow (42_arith.md R200, R201). -/
def sumOut (x y : Byte) (k : Nat) : AluOut :=
  writesBoth (BitVec.ofNat 8 (x.toNat + y.toNat + k)) (decide (256 ≤ x.toNat + y.toNat + k))
    (overflows (x.toInt + y.toInt + k))

/-- `x - y - b`: C is 1 exactly if there is no borrow, V the signed overflow (42_arith.md R200, R203). -/
def differenceOut (x y : Byte) (b : Nat) : AluOut :=
  writesBoth (BitVec.ofInt 8 ((x.toNat : Int) - y.toNat - b)) (decide (y.toNat + b ≤ x.toNat))
    (overflows (x.toInt - y.toInt - b))

/-- A result whose V is free where `corner` holds (93 U6). -/
def withFreeV (o : AluOut) (corner : Bool) (draws : Nat) : AluOut :=
  if corner then { o with flags := { o.flags with v := Config.freeBit draws }, drawn := 1 } else o

/-- The flags of a compare of `d` with `s` under an order (42_arith.md R213): C = NOT (d > s), Z = (d = s), V = (d < s); `a`
receives `s - d`. -/
def compareOut (d s : Byte) (greater less : Bool) : AluOut :=
  { result := s - d, acc := BitVec.ofInt 8 ((s.toNat : Int) - d.toNat), flags := ⟨!greater, less, d == s⟩, write := false,
    mul := false, drawn := 0 }

/-- A product: the high byte for the destination, the low byte for `a`, three free flags (42_arith.md R215). -/
def productOut (p : Int) (draws : Nat) : AluOut :=
  { result := BitVec.ofInt 8 (p / 256), acc := BitVec.ofInt 8 p
    flags := ⟨Config.freeBit draws, Config.freeBit (draws + 1), Config.freeBit (draws + 2)⟩
    write := true, mul := true, drawn := 3 }

end Sys2Proof.Machine
end

