-- ==== Sys2Proof/Certificates/Slice0/Obligations.lean ====
section
/-! DEFINITION. The statements for the provers: what the rules of the spec say about this machine. -/

open Sys2Proof Sys2Proof.Machine

/-! ## Encoding (30_encoding.md) -/

/-- For every instruction, with every operand at every value, the decoder reads from its encoded word exactly that
instruction. The canonical bits of register shifts and register compares (log 28) are the encoder's choice. -/
def Obligations.DecodeOfEncodeIsTheInstruction : Prop :=
  ∀ i : Instr, decode (encode i) = some i

/-- Whatever word the decoder reads as an instruction differs from that instruction's encoded word at most in the bits
the instruction ignores: bits 11 to 8 of a register shift, bits 3 to 0 of a register compare (log 28). So no other
fixed bit may be cleared (log 10). -/
def Obligations.DecodedWordsMatchTheirPattern : Prop :=
  ∀ (w : IWord) (i : Instr), decode w = some i → (w ^^^ encode i) &&& ~~~i.ignoredBits = 0

/-- For every row of the decoding table a word written out from the spec decodes to the instruction it stands for (both
modes of formats 2 and 8, both values of PMD), and words with an unassigned code or with a fixed bit cleared decode
to none; that a cleared fixed bit makes the word undefined is decision D4 of the spec (log 10). -/
def Obligations.ListedWordsDecode : Prop :=
  decode 0b0001001100111011110000#22 = some (.addDirect .r0 0x0F) ∧
  decode 0b0110010001111111111110#22 = some (.incIndexed .a .i0 0xFE) ∧
  decode 0b0100101010001000000001#22 = some (.movePostinc .i1l .i1 0x01) ∧
  decode 0b0101101010100011001101#22 = some (.movePredec .ipl .i3 0x4D) ∧
  decode 0b0011100100111011101101#22 = some (.subdImm .r0 0x12) ∧
  decode 0b0011001110110011011110#22 = some (.mulReg3 .r0 .r1 .r2) ∧
  decode 0b0001101010101111111100#22 = some (.moveR3 .r3 .i0) ∧
  decode 0b0000101100100011111111#22 = some (.moveToIndexed .ipl .i0 0xFF) ∧
  decode 0b0000000111101000001101#22 = some (.moveToDirectImm 0xF2 0x85) ∧
  decode 0b1100101110000000011011#22 = some (.jzcAbs 0x1FE4) ∧
  decode 0b1110011111010110101011#22 = some (.callAbs 0x0A54) ∧
  decode 0b0010111011111111111110#22 = some (.freq 0b1110) ∧
  decode 0b0000111010110111111111#22 = some (.moveToR3 .r1 .i2) ∧
  decode 0b0000110100110100000001#22 = some (.moveToPostinc .r1 .i0 0x01) ∧
  decode 0b0000110100111111111111#22 = some (.moveToPredec .a .i0 0x7F) ∧
  decode 0b0000011011111000001111#22 = some (.moveToDirect .r0 0xF0) ∧
  decode 0b1000111111111111111111#22 = some .jumpIp ∧
  decode 0b1001101111111111111111#22 = some .jzsIp ∧
  decode 0b1010011111111111111111#22 = some .callIp ∧
  decode 0b1110101101111111111111#22 = some (.callsAbs 0x2000) ∧
  decode 0b1010101111111111111111#22 = some .callsIp ∧
  decode 0b1011011111111111111111#22 = some .push ∧
  decode 0b1111101011111111111111#22 = some .pop ∧
  decode 0b1111110011111111111111#22 = some .ret ∧
  decode 0b1111110001111111111111#22 = some .reti ∧
  decode 0b1111111111111111111111#22 = some .nop ∧
  decode 0b0010110111111111111111#22 = some .sflag ∧
  decode 0b0010111101111111111111#22 = some .halt ∧
  decode 0b0010111110111011111111#22 = some (.pmd false) ∧
  decode 0b0010111110111111111111#22 = some (.pmd true) ∧
  decode 0b1111111111111111111110#22 = none ∧ decode 0b0011001001111111111111#22 = none

/-- In formats 1, 2, 4, 5 and 6 the codes 01001, 01111, 10111 and 11101 name no instruction; in format 3 the code 1001
names none; and the word with bits 21 to 16 equal to 001111 is none either. -/
def Obligations.UnassignedAluCodesNameNoInstruction : Prop :=
  (∀ w : IWord,
      (w.extractLsb' 20 2 = 0b01#2 ∨ w.extractLsb' 17 5 = 0b00110#5 ∨ w.extractLsb' 17 5 = 0b00011#5 ∨
        w.extractLsb' 17 5 = 0b00010#5) →
      (w.extractLsb' 12 5 = 0b01001#5 ∨ w.extractLsb' 12 5 = 0b01111#5 ∨ w.extractLsb' 12 5 = 0b10111#5 ∨
        w.extractLsb' 12 5 = 0b11101#5) →
      decode w = none) ∧
    (∀ w : IWord, w.extractLsb' 16 6 = 0b001110#6 → w.extractLsb' 12 4 = 0b1001#4 → decode w = none) ∧
    ∀ w : IWord, w.extractLsb' 16 6 = 0b001111#6 → decode w = none

/-! ## Registers (10_state.md) -/

/-- The sixteen codes name the registers of the table; a register reads as last written and the others keep their value;
a pair is its h register above its l register, writing it writes both and no other register, and ip is iph above
ipl. -/
def Obligations.RegistersAndPairs : Prop :=
  (List.range 16).map (fun n => Reg.ofCode (BitVec.ofNat 4 n)) =
      [.i0l, .i0h, .i1l, .i1h, .i2l, .i2h, .i3l, .i3h, .ipl, .iph, .stat, .r3, .r2, .r1, .r0, .a] ∧
    (∀ (s : State) (r q : Reg) (v : Byte), (s.setReg r v).reg q = if q = r then v else s.reg q) ∧
    (∀ (s : State) (ix : Ix), s.regs.pair ix = s.reg ix.hi ++ s.reg ix.lo) ∧
    (∀ (s : State) (ix : Ix) (w : Word), (s.setPair ix w).regs.pair ix = w ∧
      ∀ q, q ≠ ix.lo → q ≠ ix.hi → (s.setPair ix w).reg q = s.reg q) ∧
    ∀ (s : State) (w : Word), s.regs.ip = s.reg .iph ++ s.reg .ipl ∧ (s.setIp w).regs.ip = w ∧
      ∀ q, q ≠ .ipl → q ≠ .iph → (s.setIp w).reg q = s.reg q

/-! ## The step (60_exceptions.md R330) -/

/-- Where no reset and no test shift is asked for, the core is not halted, no request is pending at the boundary and ROM
mode is off: if the instruction word at the boundary decodes to i, the step answers what exec i answers at the
boundary (in Test mode with the shift register then loaded by a free capture, log 14; in Normal mode nothing more).
With TestEn low the level of TestShift is ignored (log 13). With no input left the boundary is the state itself with
TestEn low, and in Normal mode the word is the one in program memory at the pc. The input schedule is the model's
(log 1). -/
def Obligations.StepRunsTheDecodedInstruction : Prop :=
  (∀ (s : State) (w : IWord) (i : Instr), s.RunsThisStep → s.atBoundary.halted = false →
      s.atBoundary.pending = none → s.atBoundary.romMode = false → s.atBoundary.instructionWord = some w →
      decode w = some i →
      step s = captureOutcome (exec i s.atBoundary) ∧
        (s.nextInput.testEn = false → step s = exec i s.atBoundary)) ∧
    (∀ s : State, s.inputs = [] → s.RunsThisStep ∧ s.atBoundary = { s with testEn := false }) ∧
    ∀ s : State, s.nextInput.testEn = false →
      s.atBoundary.instructionWord = Memory.lookup s.pm s.pc.toNat ∧ s.atBoundary.pc = s.pc

/-- Where the step would run an instruction: a word that decodes to none answers the fault undefinedEncoding (log 10),
and in Normal mode an address of program memory that holds no word answers the fault unpopulatedFetch (log 5). -/
def Obligations.UndefinedWordsAndEmptyAddressesFault : Prop :=
  ∀ s : State, s.RunsThisStep → s.atBoundary.halted = false → s.atBoundary.pending = none →
      s.atBoundary.romMode = false →
      (∀ w, s.atBoundary.instructionWord = some w → decode w = none → step s = .fault .undefinedEncoding) ∧
        (s.nextInput.testEn = false → Memory.lookup s.pm s.pc.toNat = none →
          step s = .fault .unpopulatedFetch)

/-- If the memories are in canonical form, the hardware stack has STACK_DEPTH levels, its counter is at most STACK_DEPTH
and only a halted core is held, then the same holds after any step that answers a next state, whatever the step
does: an instruction, an interrupt entry, a reset, a step in Halt mode, a test cycle. -/
def Obligations.StepKeepsTheInvariant : Prop :=
  ∀ s t : State, s.Inv → step s = .next t → t.Inv

/-- The reset state has memories in canonical form, STACK_DEPTH levels, counter 0, and is not held. -/
def Obligations.ResetMeetsTheInvariant : Prop :=
  State.reset.Inv

/-- After reset every register reads 0, the pc is 0, the stack counter is 0 (full flag 0, empty flag 1), FreqOut is 0,
Halt and ROM mode are off, the control view is 0 and no multiplication is pending. The flags read 0, which is
decision D5 of the spec (log 6). -/
def Obligations.ResetStateIsAsListed : Prop :=
  (∀ r : Reg, State.reset.reg r = 0) ∧ State.reset.pc = 0 ∧ State.reset.cnt = 0 ∧
    State.reset.stackFull = false ∧ State.reset.stackEmpty = true ∧ State.reset.freqOut = 0 ∧
    State.reset.halted = false ∧ State.reset.romMode = false ∧ State.reset.testEn = false ∧
    State.reset.statCtl = 0 ∧ State.reset.mulShadow = none ∧ State.reset.flags = ⟨false, false, false⟩

/-- In every state a step whose input asserts reset answers a next state in which every register and the pc are 0, the
stack is empty, FreqOut, Halt mode, ROM mode, the control view and the multiplier shadow are cleared, and no pin is
latched; program memory and the platform keep their content, and so does every byte of data memory outside shared
locations. The flags are 0 by decision D5 (log 6), the levels by choice of the model (log 7). -/
def Obligations.ResetEventClearsTheCore : Prop :=
  ∀ s : State, s.nextInput.reset = true →
      ∃ t, step s = .next t ∧ (∀ r : Reg, t.reg r = 0) ∧ t.pc = 0 ∧ t.cnt = 0 ∧
        t.levels = List.replicate s.platform.stackDepth 0 ∧ t.flags = ⟨false, false, false⟩ ∧ t.freqOut = 0 ∧
        t.halted = false ∧ t.romMode = false ∧ t.statCtl = 0 ∧ t.mulShadow = none ∧ t.pm = s.pm ∧
        t.platform = s.platform ∧ t.inputs = s.inputs.tail ∧
        ∀ a : Word, s.kindAt a ≠ .shared → t.byteAt a = s.byteAt a

/-- At a boundary nInterrupt(2) sets bit 4, nInterrupt(1) bit 3, nInterrupt(0) bit 2, nEvent(1) bit 1 and nEvent(0) bit
0, in stat and in the control view; the other bits, the other registers, the pc, the flags, the stack and the
memories keep their value. An asserted line, and nothing else here, ends the held Halt of 93 U16, a field of the
model (log 20). -/
def Obligations.PinsSetTheirBits : Prop :=
  ∀ (s : State) (p : Pins),
      (∀ v w : Byte, v = s.reg .stat ∧ w = (s.samplePins p).reg .stat ∨
          v = s.statCtl ∧ w = (s.samplePins p).statCtl →
        w.getLsbD 4 = (v.getLsbD 4 || p.int2) ∧ w.getLsbD 3 = (v.getLsbD 3 || p.int1) ∧
          w.getLsbD 2 = (v.getLsbD 2 || p.int0) ∧ w.getLsbD 1 = (v.getLsbD 1 || p.ev1) ∧
          w.getLsbD 0 = (v.getLsbD 0 || p.ev0) ∧ w.getLsbD 5 = v.getLsbD 5 ∧ w.getLsbD 6 = v.getLsbD 6 ∧
          w.getLsbD 7 = v.getLsbD 7) ∧
        (∀ r, r ≠ .stat → (s.samplePins p).reg r = s.reg r) ∧
        ∃ (rs : Regs) (c : Byte),
          s.samplePins p =
            { s with
              regs := rs
              statCtl := c
              haltHeld := s.haltHeld && !(p.int2 || p.int1 || p.int0 || p.ev1 || p.ev0) }

/-- Level 0 requests with IN0 and GIE, level 1 with IN1, IE1 and GIE, level 2 with IN2, IE2 and GIE, each only while the
stack is not full; the interrupt logic evaluates them on the control view. -/
def Obligations.MaskedRequests : Prop :=
  (∀ s : State,
      s.request s.statCtl .level0 = (s.statCtl.getLsbD 2 && s.statCtl.getLsbD 5 && !s.stackFull) ∧
        s.request s.statCtl .level1 =
          (s.statCtl.getLsbD 3 && s.statCtl.getLsbD 6 && s.statCtl.getLsbD 5 && !s.stackFull) ∧
        s.request s.statCtl .level2 =
          (s.statCtl.getLsbD 4 && s.statCtl.getLsbD 7 && s.statCtl.getLsbD 5 && !s.stackFull)) ∧
    (∀ s : State, s.stackFull = true ↔ s.cnt = s.platform.stackDepth) ∧
    ∀ (s : State) (k : Level), s.pending = some k → s.request s.statCtl k = true

/-- Level 0 is chosen exactly if it requests, level 1 exactly if it requests and level 0 does not, level 2 exactly if it
requests and the others do not; nothing is chosen exactly if none requests, so never while the stack is full. -/
def Obligations.PendingInterruptHasTheHighestPriority : Prop :=
  ∀ s : State,
      (s.pending = some .level0 ↔ s.request s.statCtl .level0 = true) ∧
        (s.pending = some .level1 ↔
          s.request s.statCtl .level1 = true ∧ s.request s.statCtl .level0 = false) ∧
        (s.pending = some .level2 ↔
          s.request s.statCtl .level2 = true ∧ s.request s.statCtl .level0 = false ∧
            s.request s.statCtl .level1 = false) ∧
        (s.pending = none ↔ ∀ k, s.request s.statCtl k = false) ∧
        (s.cnt = s.platform.stackDepth → s.pending = none)

/-- In Normal mode, where the core is not held in Halt mode and level k is pending at the boundary: the step answers the
state in which the pc is pushed on the hardware stack, GIE is cleared in stat, the control view equals stat, the pc
is 3, 1 or 2 for level 0, 1 or 2, Halt mode is left, the multiplier shadow is dropped (decision D16 of the spec, log
17), and every other register, the flags, the memories and everything else keep their value. -/
def Obligations.InterruptEntrySavesAndVectors : Prop :=
  ∀ (s : State) (k : Level), s.RunsThisStep → s.nextInput.testEn = false →
      (s.atBoundary.halted = true → s.atBoundary.haltHeld = false) → s.atBoundary.pending = some k →
      step s = .next
        { s.atBoundary with
          levels := (s.pc :: s.levels).take s.platform.stackDepth
          cnt := s.cnt + 1
          regs := s.atBoundary.regs.set .stat (s.atBoundary.reg .stat &&& 0b11011111#8)
          statCtl := s.atBoundary.reg .stat &&& 0b11011111#8
          pc := match k with
            | .level0 => 3
            | .level1 => 1
            | .level2 => 2
          halted := false
          haltHeld := false
          mulShadow := none }

/-- At a boundary at which the core is halted and either no event bit is set and no request is pending in the control
view, or it is held by the free choice of 93 U16 (log 20), the step answers the boundary state with only the control
view made equal to stat. A pending request counts through the whole masking chain, the stack-full mask included (log
36). That it is so in an execute cycle of Test mode and in ROM mode too, where the core then neither executes nor
captures, is the model's choice (logs 13 and 15): the spec is silent on Halt mode there. -/
def Obligations.HaltedCoreStaysHalted : Prop :=
  ∀ s : State, s.RunsThisStep → s.atBoundary.halted = true →
      (s.atBoundary.statCtl.getLsbD 0 = false ∧ s.atBoundary.statCtl.getLsbD 1 = false ∧
          s.atBoundary.pending = none ∨ s.atBoundary.haltHeld = true) →
      step s = .next { s.atBoundary with statCtl := s.atBoundary.reg .stat }

/-- In Normal mode, where the core is halted and not held, an event bit is set in the control view and no request is
pending: the step runs the instruction at the pc, with Halt mode left. -/
def Obligations.EventWakesTheCore : Prop :=
  ∀ (s : State) (w : IWord) (i : Instr), s.RunsThisStep → s.nextInput.testEn = false →
      s.atBoundary.halted = true → s.atBoundary.haltHeld = false → s.atBoundary.romMode = false →
      (s.atBoundary.statCtl.getLsbD 0 = true ∨ s.atBoundary.statCtl.getLsbD 1 = true) →
      s.atBoundary.pending = none → Memory.lookup s.pm s.pc.toNat = some w → decode w = some i →
      step s = exec i { s.atBoundary with halted := false }

/-- Whatever a step does, program memory and the parameters of the platform are unchanged. -/
def Obligations.StepNeverWritesProgramMemory : Prop :=
  ∀ s t : State, step s = .next t → t.pm = s.pm ∧ t.platform = s.platform

/-- Test mode is executed by choice of the model, which samples no line in a shift cycle (log 13). A cycle with TestEn
and TestShift high enters TestIn at the top of the shift register and changes nothing else (with TestEn high before
it, no bus write due). With TestEn high before and now the instruction word is what was shifted in, and an execute
cycle outside ROM mode runs it, then loads the shift register with a free capture (log 14). In ROM mode with TestEn
high an execute cycle captures the word of program memory into the shift register and advances the pc, executing
nothing (log 15); the word of PMD #0 is captured too and ends ROM mode; with TestEn low the model refuses (log 16).
A pending interrupt is entered in an execute cycle of Test or ROM mode as in Normal mode and displaces the word, by
choice of the model (logs 13, 15). The output pins show Halt mode, FreqOut, ROM mode and the pc, and TestOut is 1 in
Normal mode and the lowest bit of the shift register in Test mode (log 14). -/
def Obligations.TestAndRomCycles : Prop :=
  (∀ s : State, s.nextInput.reset = false → s.nextInput.testEn = true → s.nextInput.testShift = true →
      s.testEn = true → s.nextInput.busWrites = [] →
      step s = .next
        { s with
          inputs := s.inputs.tail
          testReg := BitVec.ofBool s.nextInput.testIn ++ s.testReg.extractLsb' 1 21 }) ∧
    (∀ s : State, s.nextInput.testEn = true → s.testEn = true → s.atBoundary.instructionWord = some s.testReg ∧
      (s.RunsThisStep → s.atBoundary.halted = false → s.atBoundary.pending = none → s.atBoundary.romMode = false →
        ∀ i t, decode s.testReg = some i → exec i s.atBoundary = .next t →
          step s = .next { t with testReg := Config.freeCapture t.draws, draws := t.draws + 1 })) ∧
    (∀ s : State, s.RunsThisStep → s.atBoundary.halted = false → s.atBoundary.pending = none →
      s.atBoundary.romMode = true →
      (s.nextInput.testEn = false → step s = .refused .romModeOutsideTest) ∧
        (s.nextInput.testEn = true → ∀ w, Memory.lookup s.pm s.pc.toNat = some w →
          (decode w ≠ some (.pmd false) →
            step s = .next (s.atBoundary.endsAt { s.atBoundary with testReg := w } (s.pc + 1))) ∧
          (decode w = some (.pmd false) →
            step s = .next
              (s.atBoundary.endsAt { s.atBoundary with testReg := w, romMode := false } (s.pc + 1))))) ∧
    (∀ (s : State) (k : Level), s.RunsThisStep → s.nextInput.testEn = true →
      (s.atBoundary.halted = true → s.atBoundary.haltHeld = false) → s.atBoundary.pending = some k →
      ∃ t, step s = .next t ∧ t.levels = (s.pc :: s.levels).take s.platform.stackDepth ∧
        t.cnt = s.cnt + 1 ∧ t.reg .stat = s.atBoundary.reg .stat &&& 0b11011111#8 ∧ t.statCtl = t.reg .stat ∧
        (t.pc = match k with
          | .level0 => 3
          | .level1 => 1
          | .level2 => 2) ∧
        t.halted = false ∧ t.romMode = s.romMode ∧ (∀ r, r ≠ .stat → t.reg r = s.reg r) ∧
        t.testReg = Config.freeCapture s.atBoundary.draws) ∧
    ∀ s : State, s.outputs.haltState = s.halted ∧ s.outputs.freqOut = s.freqOut ∧ s.outputs.romMode = s.romMode ∧
      s.outputs.pmAddr = s.pc ∧ (s.testEn = false → s.outputs.testOut = true) ∧
      (s.testEn = true → s.outputs.testOut = s.testReg.getLsbD 0)

/-! ## What every instruction does and leaves alone -/

/-- For every instruction that completes: unless it is RETI, the control view afterwards equals stat as it was before
the instruction, so a software write of stat reaches the interrupt logic, JEV and HALT one instruction late (the
uniform lag is decision D8 of the spec, log 19); and the multiplier shadow afterwards names the destination exactly
if the instruction is MUL or MULA. -/
def Obligations.ControlViewLagsOneInstruction : Prop :=
  ∀ (i : Instr) (s t : State), exec i s = .next t →
      (i ≠ .reti → t.statCtl = s.reg .stat) ∧
        (∀ form, Instr.ofAlu .mul form = some i ∨ Instr.ofAlu .mula form = some i →
          t.mulShadow = some form.dest) ∧
        ((∀ form, Instr.ofAlu .mul form ≠ some i ∧ Instr.ofAlu .mula form ≠ some i) → t.mulShadow = none)

/-- For every instruction that completes and every address other than the effective address of the store the instruction
is (if it is one), the byte there is as before. An instruction that is no store changes no byte. -/
def Obligations.OnlyStoresWriteDataMemory : Prop :=
  ∀ (i : Instr) (s t : State), exec i s = .next t →
      ∀ a : Word, (∀ ea, i.storeOperand = some ea → a ≠ s.address ea) → t.byteAt a = s.byteAt a

/-- For every ALU-class instruction that completes: every register but the destination, a, and the two bytes of a post-
or pre-modified pair keeps its value; CMP, CMPA and TSTB do not write the register they name (unless it is a, or a
byte of the modified pair); the logical operations and the moves keep C and V; the pc goes to the next instruction;
the stack, FreqOut, Halt mode, ROM mode, the device log and every byte of data memory are unchanged. -/
def Obligations.AluClassFrame : Prop :=
  ∀ (op : AluOp) (form : AluForm) (i : Instr) (s t : State), Instr.ofAlu op form = some i → exec i s = .next t →
      (∀ r, r ≠ .a → r ≠ form.dest →
        (∀ reg ea ix, form = .mem reg ea → ea.modifies = some ix → r ≠ ix.lo ∧ r ≠ ix.hi) →
        t.reg r = s.reg r) ∧
        (op = .cmp ∨ op = .cmpa ∨ op = .tstb → form.dest ≠ .a →
          (∀ reg ea ix, form = .mem reg ea → ea.modifies = some ix → form.dest ≠ ix.lo ∧ form.dest ≠ ix.hi) →
          t.reg form.dest = s.reg form.dest) ∧
        (op = .and ∨ op = .or ∨ op = .xor ∨ op = .cpl1 ∨ op = .tstb ∨ op = .move ∨ op = .cmvd ∨ op = .cmvs →
          t.flags.c = s.flags.c ∧ t.flags.v = s.flags.v) ∧
        t.pc = s.pc + 1 ∧ t.levels = s.levels ∧ t.cnt = s.cnt ∧ t.freqOut = s.freqOut ∧ t.halted = s.halted ∧
        t.romMode = s.romMode ∧ t.deviceLog = s.deviceLog ∧ ∀ a : Word, t.byteAt a = s.byteAt a

/-- For every ALU-class instruction that completes and is neither MUL nor MULA: Z is set exactly if the accumulator
afterwards is 0, also for a compare, a TSTB and a conditional move that is not done. -/
def Obligations.ZeroFlagFollowsTheAccumulator : Prop :=
  ∀ (op : AluOp) (form : AluForm) (i : Instr) (s t : State), op ≠ .mul → op ≠ .mula →
      Instr.ofAlu op form = some i → exec i s = .next t → (t.flags.z = true ↔ t.reg .a = 0)

/-- The direct address is in page 0; the indexed address is the pair plus the offset, or plus r3; post-increment
addresses the pair and adds the offset to it; pre-decrement adds 65408 plus the field (the field padded with ones,
which takes field 0 for -128 by decision D14 of the spec, log 27) and leaves the sum in the pair; the other modes
change no register. Of a register form op1 is the second register named and op2 the third (a compare names op2 first
and then op1, a two-register form its destination and op1); of an immediate form op1 is the data and op2 the
register; of a memory form op1 is the byte at the effective address and op2 the register; the destination is the
first register named, of a memory or immediate form the one register. -/
def Obligations.EffectiveAddresses : Prop :=
  ∀ s : State,
      (∀ addr, (s.address (.direct addr)).toNat = addr.toNat ∧ s.updateIndex (.direct addr) = s) ∧
        (∀ ix offset, (s.address (.indexed ix offset)).toNat =
            ((s.regs.pair ix).toNat + offset.toNat) % 65536 ∧ s.updateIndex (.indexed ix offset) = s) ∧
        (∀ ix, (s.address (.r3 ix)).toNat = ((s.regs.pair ix).toNat + (s.reg .r3).toNat) % 65536 ∧
            s.updateIndex (.r3 ix) = s) ∧
        (∀ ix offset, s.address (.postinc ix offset) = s.regs.pair ix ∧
            ((s.updateIndex (.postinc ix offset)).regs.pair ix).toNat =
              ((s.regs.pair ix).toNat + offset.toNat) % 65536) ∧
        (∀ ix field, (s.address (.predec ix field)).toNat =
            ((s.regs.pair ix).toNat + (65408 + field.toNat)) % 65536 ∧
          (s.updateIndex (.predec ix field)).regs.pair ix = s.address (.predec ix field)) ∧
        (∀ res x y : Reg, s.op1 (.regs res x y) = s.reg x ∧ s.op2 (.regs res x y) = s.reg y ∧
          (AluForm.regs res x y).dest = res ∧
          Instr.ofAlu .subd (.regs res x y) = some (.subdReg3 res x y) ∧
          Instr.ofAlu .subdc (.regs res x y) = some (.subdcReg3 res x y) ∧
          Instr.ofAlu .subs (.regs res x y) = some (.subsReg3 res x y) ∧
          Instr.ofAlu .subsc (.regs res x y) = some (.subscReg3 res x y) ∧
          Instr.ofAlu .cmp (.regs res x y) = some (.cmpRegs y x) ∧
          Instr.ofAlu .cmpa (.regs res x y) = some (.cmpaRegs y x) ∧
          Instr.ofAlu .move (.regs res x y) = some (.moveReg2 res x)) ∧
        (∀ (reg : Reg) (data : Byte), s.op1 (.imm reg data) = data ∧ s.op2 (.imm reg data) = s.reg reg ∧
          (AluForm.imm reg data).dest = reg) ∧
        ∀ (reg : Reg) (ea : EAddr), s.op1 (.mem reg ea) = s.readData (s.address ea) ∧
          s.op2 (.mem reg ea) = s.reg reg ∧ (AluForm.mem reg ea).dest = reg

/-- For MOVE of a post- or pre-modified operand into the low or the high byte of the same pair: the instruction
completes, the named byte and a end with the byte read, at the index before the update for post-increment and at the
updated index for pre-decrement, and the other byte is that of the updated index. -/
def Obligations.LoadIntoTheModifiedPair : Prop :=
  ∀ (s : State) (ix : Ix), s.HazardFree [ix.lo, ix.hi] →
      (∀ o : BitVec 7,
        (∃ t, exec (.movePostinc ix.lo ix o) s = .next t ∧
          t.reg ix.lo = s.readData (s.regs.pair ix) ∧ t.reg .a = s.readData (s.regs.pair ix) ∧
          (t.reg ix.hi).toNat = ((s.regs.pair ix).toNat + o.toNat) % 65536 / 256) ∧
        ∃ t, exec (.movePostinc ix.hi ix o) s = .next t ∧
          t.reg ix.hi = s.readData (s.regs.pair ix) ∧ t.reg .a = s.readData (s.regs.pair ix) ∧
          (t.reg ix.lo).toNat = ((s.regs.pair ix).toNat + o.toNat) % 256) ∧
        ∀ f : BitVec 7,
          (∃ t, exec (.movePredec ix.lo ix f) s = .next t ∧
            t.reg ix.lo = s.readData (s.address (.predec ix f)) ∧ t.reg .a = s.readData (s.address (.predec ix f)) ∧
            (t.reg ix.hi).toNat = ((s.regs.pair ix).toNat + 65408 + f.toNat) % 65536 / 256) ∧
          ∃ t, exec (.movePredec ix.hi ix f) s = .next t ∧
            t.reg ix.hi = s.readData (s.address (.predec ix f)) ∧ t.reg .a = s.readData (s.address (.predec ix f)) ∧
            (t.reg ix.lo).toNat = ((s.regs.pair ix).toNat + 128 + f.toNat) % 256

/-! ## Arithmetic (42_arith.md) -/

/-- ADD answers op1 + op2, ADDC op1 + op2 + C; C is the carry out of bit 7, V says that the signed sum leaves -128..127
(log 23), Z that the result is 0. Every form completes unless the multiplier hazard forbids its address; op1 and op2
are the operands of the form, the index is updated before the destination is written, the result goes to the
destination and to a, the pc to the next instruction, and everything else keeps its value. Constructors: addDirect,
addIndexed, addPostinc, addPredec, addR3, addImm, addReg3, addcDirect, addcIndexed, addcPostinc, addcPredec, addcR3,
addcImm, addcReg3. -/
def Obligations.AddAndAddc : Prop :=
  Answers .add (fun x y _ _ => sumOut x y 0) ∧ Answers .addc (fun x y f _ => sumOut x y (carryNat f))

/-- SUBD answers op1 - op2 and SUBS op2 - op1 modulo 256; C is 1 exactly if there is no borrow, V says that the signed
difference leaves -128..127 (log 23). Every form completes unless the multiplier hazard forbids its address; op1 and
op2 are the operands of the form, the index is updated before the destination is written, the result goes to the
destination and to a, the pc to the next instruction, and everything else keeps its value. Constructors: subdDirect,
subdIndexed, subdPostinc, subdPredec, subdR3, subdImm, subdReg3, subsDirect, subsIndexed, subsPostinc, subsPredec,
subsR3, subsImm, subsReg3. -/
def Obligations.SubdAndSubs : Prop :=
  Answers .subd (fun x y _ _ => differenceOut x y 0) ∧ Answers .subs (fun x y _ _ => differenceOut y x 0)

/-- SUBDC answers op1 - op2 - (1 - C) and SUBSC op2 - op1 - (1 - C) modulo 256; C is 1 exactly if there is no borrow, V
the signed overflow (log 23). Every form completes unless the multiplier hazard forbids its address; op1 and op2 are
the operands of the form, the index is updated before the destination is written, the result goes to the destination
and to a, the pc to the next instruction, and everything else keeps its value. Constructors: subdcDirect,
subdcIndexed, subdcPostinc, subdcPredec, subdcR3, subdcImm, subdcReg3, subscDirect, subscIndexed, subscPostinc,
subscPredec, subscR3, subscImm, subscReg3. -/
def Obligations.SubdcAndSubsc : Prop :=
  Answers .subdc (fun x y f _ => differenceOut x y (1 - carryNat f)) ∧
    Answers .subsc (fun x y f _ => differenceOut y x (1 - carryNat f))

/-- INC answers op1 + 1 with C = 1 exactly for 0xFF and V = 1 exactly for 0x7F; DEC answers op1 - 1 with C = 0 exactly
for 0x00 and V = 1 exactly for 0x80; Z says that the result is 0. Every form completes unless the multiplier hazard
forbids its address; op1 and op2 are the operands of the form, the index is updated before the destination is
written, the result goes to the destination and to a, the pc to the next instruction, and everything else keeps its
value. Constructors: incDirect, incIndexed, incPostinc, incPredec, incR3, incReg2, decDirect, decIndexed,
decPostinc, decPredec, decR3, decReg2. -/
def Obligations.IncAndDec : Prop :=
  Answers .inc (fun x _ _ _ => writesBoth (BitVec.ofNat 8 (x.toNat + 1)) (x == 0xFF) (x == 0x7F)) ∧
    Answers .dec (fun x _ _ _ => writesBoth (BitVec.ofInt 8 ((x.toNat : Int) - 1)) (!(x == 0)) (x == 0x80))

/-- INCC answers op1 + C, C = 1 exactly for 0xFF with C = 1, V = 1 for 0x7F with C = 1; DECC answers op1 + C - 1, C = 0
exactly for 0x00 with C = 0, V = 1 for 0x80 with C = 0. V is a free bit for INCC of 0x7F with C = 0 and for DECC of
0x80 with C = 1 (log 22). Every form completes unless the multiplier hazard forbids its address; op1 and op2 are the
operands of the form, the index is updated before the destination is written, the result goes to the destination and
to a, the pc to the next instruction, and everything else keeps its value. Constructors: inccDirect, inccIndexed,
inccPostinc, inccPredec, inccR3, inccReg2, deccDirect, deccIndexed, deccPostinc, deccPredec, deccR3, deccReg2. -/
def Obligations.InccAndDecc : Prop :=
  Answers .incc (fun x _ f n =>
      withFreeV (writesBoth (BitVec.ofNat 8 (x.toNat + carryNat f)) (x == 0xFF && f.c) (x == 0x7F && f.c))
        (x == 0x7F && !f.c) n) ∧
    Answers .decc (fun x _ f n =>
      withFreeV
        (writesBoth (BitVec.ofInt 8 ((x.toNat : Int) + carryNat f - 1)) (!(x == 0) || f.c) (x == 0x80 && !f.c))
        (x == 0x80 && f.c) n)

/-- CPL2 answers -op1, C = 1 exactly for 0, V = 1 exactly for 0x80; CPL2C answers NOT op1 + C, C = 1 exactly for 0 with
C = 1, V = 1 for 0x80 with C = 1, and V is a free bit for 0x80 with C = 0 (log 22). Every form completes unless the
multiplier hazard forbids its address; op1 and op2 are the operands of the form, the index is updated before the
destination is written, the result goes to the destination and to a, the pc to the next instruction, and everything
else keeps its value. Constructors: cpl2Direct, cpl2Indexed, cpl2Postinc, cpl2Predec, cpl2R3, cpl2Reg2, cpl2cDirect,
cpl2cIndexed, cpl2cPostinc, cpl2cPredec, cpl2cR3, cpl2cReg2. -/
def Obligations.Cpl2AndCpl2c : Prop :=
  Answers .cpl2 (fun x _ _ _ => writesBoth (BitVec.ofInt 8 (-(x.toNat : Int))) (x == 0) (x == 0x80)) ∧
    Answers .cpl2c (fun x _ f n =>
      withFreeV
        (writesBoth (BitVec.ofInt 8 (255 - (x.toNat : Int) + carryNat f)) (x == 0 && f.c) (x == 0x80 && f.c))
        (x == 0x80 && !f.c) n)

/-- With d = op2 and s = op1: a receives s - d modulo 256, C = 0 exactly if d > s, Z = 1 exactly if d = s, V = 1 exactly
if d < s, as unsigned numbers for CMP and as signed numbers for CMPA; no other register but a modified index is
written. Every form completes unless the multiplier hazard forbids its address; op1 and op2 are the operands of the
form, the index is updated before the destination is written, the pc to the next instruction, and everything else
keeps its value. Constructors: cmpDirect, cmpIndexed, cmpPostinc, cmpPredec, cmpR3, cmpImm, cmpRegs, cmpaDirect,
cmpaIndexed, cmpaPostinc, cmpaPredec, cmpaR3, cmpaImm, cmpaRegs. -/
def Obligations.CmpAndCmpa : Prop :=
  Answers .cmp (fun s d _ _ => compareOut d s (decide (s.toNat < d.toNat)) (decide (d.toNat < s.toNat))) ∧
    Answers .cmpa (fun s d _ _ => compareOut d s (decide (s.toInt < d.toInt)) (decide (d.toInt < s.toInt)))

/-- MUL multiplies the operands as unsigned, MULA as two's complement numbers (log 24); the destination receives bits 15
to 8 of the product and then a bits 7 to 0; the three flags are three free bits (log 21), and the destination is
remembered for the multiplier hazard. Every form completes unless the multiplier hazard forbids its address; op1 and
op2 are the operands of the form, the index is updated before the destination is written, the pc to the next
instruction, and everything else keeps its value. Constructors: mulDirect, mulIndexed, mulPostinc, mulPredec, mulR3,
mulImm, mulReg3, mulaDirect, mulaIndexed, mulaPostinc, mulaPredec, mulaR3, mulaImm, mulaReg3. -/
def Obligations.MulAndMula : Prop :=
  Answers .mul (fun x y _ n => productOut (x.toNat * y.toNat) n) ∧
    Answers .mula (fun x y _ n => productOut (x.toInt * y.toInt) n)

/-! ## Logic and shifts (43_logic_shift.md) -/

/-- Each answers the bitwise operation of op1 and op2; Z says that the result is 0. Every form completes unless the
multiplier hazard forbids its address; op1 and op2 are the operands of the form, the index is updated before the
destination is written, the result goes to the destination and to a, the pc to the next instruction, and everything
else keeps its value. Constructors: andDirect, andIndexed, andPostinc, andPredec, andR3, andImm, andReg3, orDirect,
orIndexed, orPostinc, orPredec, orR3, orImm, orReg3, xorDirect, xorIndexed, xorPostinc, xorPredec, xorR3, xorImm,
xorReg3. -/
def Obligations.AndOrXor : Prop :=
  Answers .and (fun x y f _ => writesZ (BitVec.ofNat 8 (x.toNat &&& y.toNat)) f) ∧
    Answers .or (fun x y f _ => writesZ (BitVec.ofNat 8 (x.toNat ||| y.toNat)) f) ∧
    Answers .xor (fun x y f _ => writesZ (BitVec.ofNat 8 (x.toNat ^^^ y.toNat)) f)

/-- CPL1 answers the one's complement of op1; TSTB puts the AND of the register and the mask into a and writes no other
register, for any mask (log 26); Z says that the result is 0. Every form completes unless the multiplier hazard
forbids its address; op1 and op2 are the operands of the form, the index is updated before the destination is
written, the result goes to the destination and to a, the pc to the next instruction, and everything else keeps its
value. Constructors: cpl1Direct, cpl1Indexed, cpl1Postinc, cpl1Predec, cpl1R3, cpl1Reg2, tstbImm. -/
def Obligations.Cpl1AndTstb : Prop :=
  Answers .cpl1 (fun x _ f _ => writesZ (BitVec.ofNat 8 (255 - x.toNat)) f) ∧
    Answers .tstb (fun x y f _ => { writesZ (x &&& y) f with write := false })

/-- SHL answers 2 * op1, SHLC 2 * op1 + C modulo 256; C is bit 7 of op1, V says that bits 7 and 6 of op1 differ (log
25), Z that the result is 0. Every form completes unless the multiplier hazard forbids its address; op1 and op2 are
the operands of the form, the index is updated before the destination is written, the result goes to the destination
and to a, the pc to the next instruction, and everything else keeps its value. Constructors: shlDirect, shlIndexed,
shlPostinc, shlPredec, shlR3, shlReg2, shlcDirect, shlcIndexed, shlcPostinc, shlcPredec, shlcR3, shlcReg2. -/
def Obligations.LeftShifts : Prop :=
  Answers .shl (fun x _ _ _ =>
      writesBoth (BitVec.ofNat 8 (2 * x.toNat)) (decide (128 ≤ x.toNat))
        (decide (64 ≤ x.toNat ∧ x.toNat < 192))) ∧
    Answers .shlc (fun x _ f _ =>
      writesBoth (BitVec.ofNat 8 (2 * x.toNat + carryNat f)) (decide (128 ≤ x.toNat))
        (decide (64 ≤ x.toNat ∧ x.toNat < 192)))

/-- SHR answers op1 / 2, SHRC the same with C as bit 7, SHRA the floor of the signed half; C is bit 0 of op1, V is 0
(log 25), Z says that the result is 0. Every form completes unless the multiplier hazard forbids its address; op1
and op2 are the operands of the form, the index is updated before the destination is written, the result goes to the
destination and to a, the pc to the next instruction, and everything else keeps its value. Constructors: shrDirect,
shrIndexed, shrPostinc, shrPredec, shrR3, shrReg2, shrcDirect, shrcIndexed, shrcPostinc, shrcPredec, shrcR3,
shrcReg2, shraDirect, shraIndexed, shraPostinc, shraPredec, shraR3, shraReg2. -/
def Obligations.RightShifts : Prop :=
  Answers .shr (fun x _ _ _ => writesBoth (BitVec.ofNat 8 (x.toNat / 2)) (decide (x.toNat % 2 = 1)) false) ∧
    Answers .shrc (fun x _ f _ =>
      writesBoth (BitVec.ofNat 8 (x.toNat / 2 + 128 * carryNat f)) (decide (x.toNat % 2 = 1)) false) ∧
    Answers .shra (fun x _ _ _ => writesBoth (BitVec.ofInt 8 (x.toInt / 2)) (decide (x.toNat % 2 = 1)) false)

/-! ## Transfer (41_transfer.md) -/

/-- MOVE puts op1 into the destination; CMVD does so if C = 0 and CMVS if C = 1; a receives op1 in every case, Z says
that op1 is 0, C and V stay. Every form completes unless the multiplier hazard forbids its address; op1 and op2 are
the operands of the form, the index is updated before the destination is written, the pc to the next instruction,
and everything else keeps its value. Constructors: moveDirect, moveIndexed, movePostinc, movePredec, moveR3,
moveImm, moveReg2, cmvdDirect, cmvdIndexed, cmvdPostinc, cmvdPredec, cmvdR3, cmvdReg2, cmvsDirect, cmvsIndexed,
cmvsPostinc, cmvsPredec, cmvsR3, cmvsReg2. -/
def Obligations.MoveAndConditionalMoves : Prop :=
  Answers .move (fun x _ f _ => writesZ x f) ∧
    Answers .cmvd (fun x _ f _ => { writesZ x f with write := !f.c }) ∧
    Answers .cmvs (fun x _ f _ => { writesZ x f with write := f.c })

/-- For the five forms of MOVE to memory, where no multiplication forbids the address, the source is no byte of the pair
the store modifies and the address is private or shared RAM: the instruction completes, the byte at the effective
address is the register's value before, every other byte is as before, the registers change by the index update
alone, and flags, stack and everything else keep their value. Constructors: moveToDirect, moveToIndexed,
moveToPostinc, moveToPredec, moveToR3. -/
def Obligations.StoresWriteOneByte : Prop :=
  ∀ (reg : Reg) (ea : EAddr) (s : State), s.HazardFree ea.sources →
      (∀ ix, ea.modifies = some ix → reg ≠ ix.lo ∧ reg ≠ ix.hi) →
      (s.kindAt (s.address ea) = .ram ∨ s.kindAt (s.address ea) = .shared) →
      ∃ t, exec (.store reg ea) s = .next t ∧ t.byteAt (s.address ea) = s.reg reg ∧
        (∀ a, a ≠ s.address ea → t.byteAt a = s.byteAt a) ∧
        t = s.endsAt { s with regs := s.regsAfterIndex (.mem reg ea), dm := t.dm } (s.pc + 1)

/-- The word 000000 n_data n_addr decodes to the store of the immediate; it completes in every state, the pc goes to the
next instruction, no register and no flag changes; where the address is RAM the byte there is the data and every
other byte is as before; a device address receives the write in order, and an unpopulated address keeps a free byte
(logs 29, 30). Constructor: moveToDirectImm. -/
def Obligations.StoreOfAnImmediate : Prop :=
  ∀ addr data : Byte,
      decode (0b000000#6 ++ ~~~data ++ ~~~addr) = some (.moveToDirectImm addr data) ∧
        ∀ s : State,
          ∃ t, exec (.moveToDirectImm addr data) s = .next t ∧ t.pc = s.pc + 1 ∧ t.regs = s.regs ∧
            t.flags = s.flags ∧ t.levels = s.levels ∧ t.cnt = s.cnt ∧ t.freqOut = s.freqOut ∧
            t.halted = s.halted ∧ t.romMode = s.romMode ∧
            (∀ a : Word, a.toNat ≠ addr.toNat → t.byteAt a = s.byteAt a) ∧
            ∀ ea : Word, ea.toNat = addr.toNat →
              (s.kindAt ea = .ram ∨ s.kindAt ea = .shared →
                t.byteAt ea = data ∧ t.deviceLog = s.deviceLog) ∧
              (s.kindAt ea = .device →
                t.deviceLog = s.deviceLog ++ [(addr.toNat, data)] ∧ t.byteAt ea = s.byteAt ea) ∧
              (s.kindAt ea = .unpopulated →
                t.byteAt ea = Config.freeByte s.draws ∧ t.deviceLog = s.deviceLog)

/-- Where no multiplication forbids the address: a load (MOVE of a memory operand, any form) from a device address
completes with a fresh free byte in the register and one value drawn, and a load from any other address with the
byte the location holds; a store of a register (any form, the source no byte of the pair the store modifies) to a
device address completes, appends the write to the device log and changes no byte; a store to an unpopulated address
completes and leaves a fresh free byte there, every other byte as before. Everything else ends as for a store to
RAM. All three are the model's forms of D19 and U11 (logs 29, 30). Constructors: moveToDirect, moveToIndexed,
moveToPostinc, moveToPredec, moveToR3. -/
def Obligations.DevicesAndUnpopulatedAddresses : Prop :=
  ∀ (s : State) (reg : Reg) (ea : EAddr), s.HazardFree ea.sources →
      (∀ i, Instr.ofAlu .move (.mem reg ea) = some i →
        ∃ t, exec i s = .next t ∧
          (s.kindAt (s.address ea) = .device → t.reg reg = Config.freeByte s.draws ∧ t.draws = s.draws + 1) ∧
          (s.kindAt (s.address ea) ≠ .device → t.reg reg = s.byteAt (s.address ea) ∧ t.draws = s.draws)) ∧
        ((∀ ix, ea.modifies = some ix → reg ≠ ix.lo ∧ reg ≠ ix.hi) →
          (s.kindAt (s.address ea) = .device →
            exec (.store reg ea) s = .next (s.endsAt
              { s with
                regs := s.regsAfterIndex (.mem reg ea)
                deviceLog := s.deviceLog ++ [((s.address ea).toNat, s.reg reg)] } (s.pc + 1))) ∧
          (s.kindAt (s.address ea) = .unpopulated →
            ∃ t, exec (.store reg ea) s = .next t ∧ t.byteAt (s.address ea) = Config.freeByte s.draws ∧
              (∀ a, a ≠ s.address ea → t.byteAt a = s.byteAt a) ∧
              t = s.endsAt
                { s with regs := s.regsAfterIndex (.mem reg ea), dm := t.dm, draws := s.draws + 1 } (s.pc + 1)))

/-- If a store of a register to a RAM address completes and the next instruction is a load whose effective address is
the same one and which completes, the destination of the load holds the stored value. -/
def Obligations.StoreThenLoadReturnsTheByte : Prop :=
  ∀ (s u t : State) (reg dest : Reg) (ea la : EAddr) (i : Instr),
      (s.kindAt (s.address ea) = .ram ∨ s.kindAt (s.address ea) = .shared) →
      exec (.store reg ea) s = .next u → Instr.ofAlu .move (.mem dest la) = some i →
      u.address la = s.address ea → exec i u = .next t → t.reg dest = s.reg reg

/-- A post- or pre-modified store whose source is a byte of the pair it modifies is refused as storeOfModifiedIndex
where no multiplication forbids its address (log 18), and FREQ with any of the eleven reserved ratios is refused as
reservedDivn (log 11). -/
def Obligations.ModifiedStoresAndReservedRatiosAreRefused : Prop :=
  (∀ (s : State) (ix : Ix) (o : BitVec 7), s.HazardFree [ix.lo, ix.hi] →
      exec (.moveToPostinc ix.lo ix o) s = .refused .storeOfModifiedIndex ∧
        exec (.moveToPostinc ix.hi ix o) s = .refused .storeOfModifiedIndex ∧
        exec (.moveToPredec ix.lo ix o) s = .refused .storeOfModifiedIndex ∧
        exec (.moveToPredec ix.hi ix o) s = .refused .storeOfModifiedIndex) ∧
    ∀ (s : State) (divn : BitVec 4), divn ≠ 0b0000 → divn ≠ 0b1000 → divn ≠ 0b1100 → divn ≠ 0b1110 →
      divn ≠ 0b1111 → exec (.freq divn) s = .refused .reservedDivn

/-- Where the last instruction was a multiplication that wrote register d: every ALU-class instruction and every store
with an operand addressed through a pair is refused if d is a byte of that pair, the (ix, r3) form also if d is r3,
and Jcc ip (taken or not), CALL ip, CALLS ip and PUSH are refused if d is ipl or iph. The r3 and PUSH cases and the
dropping of the shadow are decision D16 of the spec (log 17). -/
def Obligations.MultiplierHazardIsRefused : Prop :=
  ∀ (s : State) (d : Reg), s.mulShadow = some d →
      (∀ (ix : Ix) (ea : EAddr),
        ((d = ix.lo ∨ d = ix.hi) ∧
            ((∃ o, ea = .indexed ix o) ∨ (∃ o, ea = .postinc ix o) ∨ (∃ f, ea = .predec ix f) ∨ ea = .r3 ix) ∨
          d = .r3 ∧ ea = .r3 ix) →
        (∀ op reg i, Instr.ofAlu op (.mem reg ea) = some i → exec i s = .refused .multiplierHazard) ∧
          ∀ reg, exec (.store reg ea) s = .refused .multiplierHazard) ∧
        (d = .ipl ∨ d = .iph →
          (∀ c, exec (.jcc c .ip) s = .refused .multiplierHazard) ∧
            exec .callIp s = .refused .multiplierHazard ∧ exec .callsIp s = .refused .multiplierHazard ∧
            exec .push s = .refused .multiplierHazard)

/-! ## Branches and the hardware stack (40_branch.md) -/

/-- For every condition and target, where no multiplication forbids ip: if the condition holds (C, V, Z clear or set,
always, or an event bit in the control view) the pc becomes the immediate address, or iph above ipl; otherwise pc +
1 modulo 65536. No register, flag, stack level or memory changes. Constructors: jumpAbs, jumpIp, jccAbs, jccIp,
jcsAbs, jcsIp, jvcAbs, jvcIp, jvsAbs, jvsIp, jzcAbs, jzcIp, jzsAbs, jzsIp, jevAbs, jevIp. -/
def Obligations.JumpsFollowTheirCondition : Prop :=
  ∀ (c : Cond) (t : Target) (s : State), s.HazardFree t.sources →
      (s.Holds c → exec (.jcc c t) s = .next (s.endsAt s (s.destination t))) ∧
        (¬ s.Holds c → exec (.jcc c t) s = .next (s.endsAt s (s.pc + 1)))

/-- If a compare (any form) completes and one of the six jumps to an immediate address follows it: JCC goes to its
target exactly if d > s, JVC if d >= s, JZC if d and s differ, JCS if d <= s, JVS if d < s, JZS if they are equal,
unsigned after CMP and signed after CMPA; otherwise it goes to the next instruction. -/
def Obligations.CompareThenJump : Prop :=
  ∀ (form : AluForm) (i : Instr) (s u : State) (tgt : Word), exec i s = .next u →
      (Instr.ofAlu .cmp form = some i →
        let d := (s.op2 form).toNat
        let x := (s.op1 form).toNat
        exec (.jccAbs tgt) u = .next (u.endsAt u (if x < d then tgt else u.pc + 1)) ∧
          exec (.jvcAbs tgt) u = .next (u.endsAt u (if x ≤ d then tgt else u.pc + 1)) ∧
          exec (.jzcAbs tgt) u = .next (u.endsAt u (if d ≠ x then tgt else u.pc + 1)) ∧
          exec (.jcsAbs tgt) u = .next (u.endsAt u (if d ≤ x then tgt else u.pc + 1)) ∧
          exec (.jvsAbs tgt) u = .next (u.endsAt u (if d < x then tgt else u.pc + 1)) ∧
          exec (.jzsAbs tgt) u = .next (u.endsAt u (if d = x then tgt else u.pc + 1))) ∧
        (Instr.ofAlu .cmpa form = some i →
          let d := (s.op2 form).toInt
          let x := (s.op1 form).toInt
          exec (.jccAbs tgt) u = .next (u.endsAt u (if x < d then tgt else u.pc + 1)) ∧
            exec (.jvcAbs tgt) u = .next (u.endsAt u (if x ≤ d then tgt else u.pc + 1)) ∧
            exec (.jzcAbs tgt) u = .next (u.endsAt u (if d ≠ x then tgt else u.pc + 1)) ∧
            exec (.jcsAbs tgt) u = .next (u.endsAt u (if d ≤ x then tgt else u.pc + 1)) ∧
            exec (.jvsAbs tgt) u = .next (u.endsAt u (if d < x then tgt else u.pc + 1)) ∧
            exec (.jzsAbs tgt) u = .next (u.endsAt u (if d = x then tgt else u.pc + 1)))

/-- After MOVE stat, #data a JEV to an immediate address jumps exactly if an event bit of the old stat was set; with one
NOP between, a JEV jumps exactly if an event bit of data is set. -/
def Obligations.JevSeesAStatWriteOneInstructionLate : Prop :=
  ∀ (s u v : State) (data : Byte) (tgt : Word), exec (.moveImm .stat data) s = .next u → exec .nop u = .next v →
      exec (.jevAbs tgt) u = .next (u.endsAt u
          (if (s.reg .stat).getLsbD 0 = true ∨ (s.reg .stat).getLsbD 1 = true then tgt else u.pc + 1)) ∧
        exec (.jevAbs tgt) v = .next (v.endsAt v
          (if data.getLsbD 0 = true ∨ data.getLsbD 1 = true then tgt else v.pc + 1))

/-- Where no multiplication forbids ip: if the stack is not full CALL completes with pc + 1 as the new top level, the
other levels one place down, the counter one up, and the pc at the target; no register and no flag changes. On a
full stack it answers the fault stackOverflow (log 9). Constructors: callAbs, callIp. -/
def Obligations.CallPushesTheReturnAddress : Prop :=
  ∀ (t : Target) (s : State), s.HazardFree t.sources →
      (s.cnt ≠ s.platform.stackDepth →
        exec (.call t) s = .next (s.endsAt
          { s with levels := ((s.pc + 1) :: s.levels).take s.platform.stackDepth, cnt := s.cnt + 1 }
          (s.destination t))) ∧
        (s.cnt = s.platform.stackDepth → exec (.call t) s = .fault .stackOverflow)

/-- Where no multiplication forbids ip: CALLS completes with pc + 1 in ip (high byte in iph, low byte in ipl) and the pc
at the immediate address or at the value ip had before; no other register, no flag, and no stack level changes.
Constructors: callsAbs, callsIp. -/
def Obligations.CallsSavesTheReturnAddressInIp : Prop :=
  ∀ (t : Target) (s : State), s.HazardFree t.sources →
      ∃ rs : Regs, exec (.calls t) s = .next (s.endsAt { s with regs := rs } (s.destination t)) ∧
        (rs.get .iph).toNat = (s.pc + 1).toNat / 256 ∧ (rs.get .ipl).toNat = (s.pc + 1).toNat % 256 ∧
        ∀ r, r ≠ .iph → r ≠ .ipl → rs.get r = s.reg r

/-- The word 0x3F3FFF decodes to RET. With a level in use it completes: the pc is the top level, the others move up, the
vacated bottom level is a free value (log 8), the counter goes down, so that the stack is not full afterwards; no
register (a, ip, stat among them) and no flag changes. On an empty stack it answers the fault stackUnderflow (log
9). Constructor: ret. -/
def Obligations.RetPopsThePc : Prop :=
  decode 0x3F3FFF#22 = some .ret ∧
    ∀ s : State,
      (∀ v rest, s.cnt ≠ 0 → s.levels = v :: rest →
        ∃ t, exec .ret s = .next t ∧
          t = s.endsAt
            { s with
              levels := rest ++ [Config.freeLevel s.draws], cnt := s.cnt - 1, draws := s.draws + 1 } v ∧
          (s.cnt ≤ s.platform.stackDepth → t.stackFull = false)) ∧
        (s.cnt = 0 → exec .ret s = .fault .stackUnderflow)

/-- The word 0x3F1FFF decodes to RETI. With a level in use it completes: the pc is the popped level, stat has bit 5 set
and its other bits as before, the control view is the old stat with bit 5 set, or the old stat itself if the
parameter RETI_GIE_DELAY is 1 (log 2); no other register and no flag changes. On an empty stack it faults (log 9).
Constructor: reti. -/
def Obligations.RetiPopsThePcAndSetsGie : Prop :=
  decode 0x3F1FFF#22 = some .reti ∧
    ∀ s : State,
      (∀ v rest, s.cnt ≠ 0 → s.levels = v :: rest →
        exec .reti s = .next
          { s with
            levels := rest ++ [Config.freeLevel s.draws]
            cnt := s.cnt - 1
            draws := s.draws + 1
            regs := s.regs.set .stat (s.reg .stat ||| 0b00100000#8)
            statCtl := if s.platform.retiGieDelay = true then s.reg .stat else s.reg .stat ||| 0b00100000#8
            mulShadow := none
            pc := v }) ∧
        (s.cnt = 0 → exec .reti s = .fault .stackUnderflow)

/-- The word 0x2DFFFF decodes to PUSH. With ip not written by the multiplication just before and the stack not full it
completes: ip is the new top level, the others move down, the counter goes up, the pc goes to the next instruction;
no register (a, ip among them) and no flag changes. On a full stack it answers the fault stackOverflow (log 9); with
ip written by the multiplication just before it is refused (log 17). Constructor: push. -/
def Obligations.PushSavesIp : Prop :=
  decode 0x2DFFFF#22 = some .push ∧
    ∀ s : State,
      (s.HazardFree [.ipl, .iph] →
        (s.cnt ≠ s.platform.stackDepth →
          exec .push s = .next (s.endsAt
            { s with
              levels := ((s.reg .iph ++ s.reg .ipl) :: s.levels).take s.platform.stackDepth
              cnt := s.cnt + 1 } (s.pc + 1))) ∧
          (s.cnt = s.platform.stackDepth → exec .push s = .fault .stackOverflow)) ∧
        (s.mulShadow = some .ipl ∨ s.mulShadow = some .iph → exec .push s = .refused .multiplierHazard)

/-- The word 0x3EBFFF decodes to POP. With a level in use it completes: iph and ipl are the high and the low byte of the
top level, the others move up, the vacated bottom level is a free value (log 8), the counter goes down, so that the
stack is not full afterwards, the pc goes to the next instruction; no other register (a among them) and no flag
changes. On an empty stack it answers the fault stackUnderflow (log 9). Constructor: pop. -/
def Obligations.PopLoadsIp : Prop :=
  decode 0x3EBFFF#22 = some .pop ∧
    ∀ s : State,
      (∀ v rest, s.cnt ≠ 0 → s.levels = v :: rest →
        ∃ (t : State) (rs : Regs), exec .pop s = .next t ∧
          t = s.endsAt
            { s with
              regs := rs, levels := rest ++ [Config.freeLevel s.draws], cnt := s.cnt - 1
              draws := s.draws + 1 } (s.pc + 1) ∧
          rs.get .iph = v.extractLsb' 8 8 ∧ rs.get .ipl = v.extractLsb' 0 8 ∧
          (∀ r, r ≠ .iph → r ≠ .ipl → rs.get r = s.reg r) ∧
          (s.cnt ≤ s.platform.stackDepth → t.stackFull = false)) ∧
        (s.cnt = 0 → exec .pop s = .fault .stackUnderflow)

/-- If PUSH completes and POP completes right after it, ip and every other register read as before, the counter is as
before, and the levels in use (all but the bottom one) are as before. -/
def Obligations.PushThenPopReturnsIp : Prop :=
  ∀ s u t : State, s.levels.length = s.platform.stackDepth → exec .push s = .next u → exec .pop u = .next t →
      (∀ r, t.reg r = s.reg r) ∧ t.cnt = s.cnt ∧
        t.levels.take (s.platform.stackDepth - 1) = s.levels.take (s.platform.stackDepth - 1)

/-! ## Special instructions (44_special.md) -/

/-- a receives C in bit 7, C xor V in bit 6, the full flag in bit 5, the empty flag in bit 4 and a free nibble below; Z
is a free bit (log 21); C, V, every other register, the stack and the memories are unchanged and the pc goes to the
next instruction. Constructor: sflag. -/
def Obligations.SflagSavesTheFlags : Prop :=
  ∀ s : State,
      ∃ v : Byte,
        exec .sflag s = .next (s.endsAt
          { s with
            regs := s.regs.set .a v
            flags := ⟨s.flags.c, s.flags.v, Config.freeBit s.draws⟩
            draws := s.draws + 1 } (s.pc + 1)) ∧
          v.getLsbD 7 = s.flags.c ∧ v.getLsbD 6 = (s.flags.c ^^ s.flags.v) ∧
          v.getLsbD 5 = decide (s.cnt = s.platform.stackDepth) ∧ v.getLsbD 4 = decide (s.cnt = 0) ∧
          v.extractLsb' 0 4 = Config.freeNibble s.draws

/-- If SFLAG completes, and later SHL a, REG completes in a state in which the register holds the byte SFLAG left in a,
then C and V are what they were at the SFLAG. -/
def Obligations.SavedFlagsAreRestored : Prop :=
  ∀ (s u v t : State) (reg : Reg), exec .sflag s = .next u → v.reg reg = u.reg .a →
      exec (.shlReg2 .a reg) v = .next t → t.flags.c = s.flags.c ∧ t.flags.v = s.flags.v

/-- The word 0x3FFFFF decodes to NOP, which completes in every state with the pc at the next instruction; the registers,
flags, stack and memories are unchanged (the control view and the multiplier shadow end as after every instruction).
Constructor: nop. -/
def Obligations.NopOnlyAdvancesThePc : Prop :=
  decode 0x3FFFFF#22 = some .nop ∧ ∀ s : State, exec .nop s = .next (s.endsAt s (s.pc + 1))

/-- For divn 0000, 1000, 1100, 1110 and 1111 FREQ completes with FreqOut equal to divn and the pc at the next
instruction; nothing else changes. Constructor: freq. -/
def Obligations.FreqSetsFreqOut : Prop :=
  ∀ (s : State) (divn : BitVec 4),
      divn = 0b0000 ∨ divn = 0b1000 ∨ divn = 0b1100 ∨ divn = 0b1110 ∨ divn = 0b1111 →
      exec (.freq divn) s = .next (s.endsAt { s with freqOut := divn } (s.pc + 1))

/-- PMD #0 completes in every state with ROM mode off, which in Normal mode changes nothing; PMD #1 completes with ROM
mode on while TestEn is high and is refused otherwise (log 12); the pc goes to the next instruction and nothing else
changes. Constructor: pmd. -/
def Obligations.PmdSwitchesRomMode : Prop :=
  ∀ s : State,
      exec (.pmd false) s = .next (s.endsAt { s with romMode := false } (s.pc + 1)) ∧
        (s.testEn = true → exec (.pmd true) s = .next (s.endsAt { s with romMode := true } (s.pc + 1))) ∧
        (s.testEn = false → exec (.pmd true) s = .refused .pmdOnInNormalMode)

/-- HALT completes in every state with the pc at the next instruction. If an event bit or a masked request is active in
the control view it does nothing else; otherwise the core is halted and not held, so that a condition stat already
holds wakes it at the next boundary. Only if the instruction before has just set an event bit or the request bit of
an unmasked level does a free bit decide whether the core is held until a pin is asserted (log 20). A request counts
through the whole masking chain, the stack-full mask included (log 36), and HALT looks at the control view, one
instruction behind software (decision D8 of the spec, log 19). Constructor: halt. -/
def Obligations.HaltEntersHaltMode : Prop :=
  ∀ s : State,
      (s.Wakeful s.statCtl → exec .halt s = .next (s.endsAt s (s.pc + 1))) ∧
        (¬ s.Wakeful s.statCtl → ¬ s.WakeUpJustSet →
          exec .halt s = .next (s.endsAt { s with halted := true, haltHeld := false } (s.pc + 1))) ∧
        (¬ s.Wakeful s.statCtl → s.WakeUpJustSet →
          exec .halt s = .next (s.endsAt
            { s with halted := true, haltHeld := Config.freeBit s.draws, draws := s.draws + 1 } (s.pc + 1)))
end

