-- ==== Sys2Proof/Laws/PerInstr.lean ====
section
/-! SUPPORT. Every instruction is the image of one of the builders of `Decode.lean` (`Instr.ofAlu`, `Instr.store`, `Instr.jcc`,
`Instr.call`, `Instr.calls`) or one of the few that stand alone: one lemma for each constructor, so that a statement about all
instructions needs one case for each class. -/

namespace Sys2Proof.Laws.Classified

/-- The class of an instruction and the word the encoder gives it. -/
def Statement (i : Instr) : Prop :=
  (∃ op form, Instr.ofAlu op form = some i ∧ encode i = encodeAlu op form ∧
      (op.fixedOnes = true → ∀ res op1 op2, form = .regs res op1 op2 → op2 = .a)) ∨
    (∃ reg ea, i = .store reg ea ∧ encode i = encodeStore reg ea) ∨
    (∃ addr data, i = .moveToDirectImm addr data) ∨
    (∃ c t, i = .jcc c t ∧ encode i = encodeJcc c t) ∨
    (∃ t, i = .call t) ∨
    (∃ t, i = .calls t) ∨
    (i = .ret ∨ i = .reti ∨ i = .push ∨ i = .pop ∨ i = .sflag ∨ i = .halt ∨ i = .nop) ∨
    (∃ on, i = .pmd on) ∨
    ∃ divn, i = .freq divn

/-! ### One lemma for each class -/

theorem ofMem {i : Instr} (op : AluOp) (reg : Reg) (ea : EAddr) (h : Instr.ofAlu op (.mem reg ea) = some i)
    (he : encode i = encodeAlu op (.mem reg ea)) : Statement i :=
  .inl ⟨op, _, h, he, fun _ _ _ _ hf => by cases hf⟩

theorem ofImm {i : Instr} (op : AluOp) (reg : Reg) (data : Byte) (h : Instr.ofAlu op (.imm reg data) = some i)
    (he : encode i = encodeAlu op (.imm reg data)) : Statement i :=
  .inl ⟨op, _, h, he, fun _ _ _ _ hf => by cases hf⟩

theorem ofTwo {i : Instr} (op : AluOp) (res op1 op2 : Reg) (ho : op.fixedOnes = false)
    (h : Instr.ofAlu op (.regs res op1 op2) = some i) (he : encode i = encodeAlu op (.regs res op1 op2)) :
    Statement i :=
  .inl ⟨op, _, h, he, fun ht => by rw [ho] at ht; cases ht⟩

theorem ofOne {i : Instr} (op : AluOp) (res op1 : Reg) (h : Instr.ofAlu op (.regs res op1 .a) = some i)
    (he : encode i = encodeAlu op (.regs res op1 .a)) : Statement i :=
  .inl ⟨op, _, h, he, fun _ _ _ _ hf => by cases hf; rfl⟩

theorem ofStore (reg : Reg) (ea : EAddr) (he : encode (.store reg ea) = encodeStore reg ea) :
    Statement (.store reg ea) :=
  .inr (.inl ⟨reg, ea, rfl, he⟩)

theorem ofJcc (c : Cond) (t : Target) (he : encode (.jcc c t) = encodeJcc c t) : Statement (.jcc c t) :=
  .inr (.inr (.inr (.inl ⟨c, t, rfl, he⟩)))

theorem ofCall (t : Target) : Statement (.call t) := .inr (.inr (.inr (.inr (.inl ⟨t, rfl⟩))))

theorem ofCalls (t : Target) : Statement (.calls t) := .inr (.inr (.inr (.inr (.inr (.inl ⟨t, rfl⟩)))))

theorem ofAlone {i : Instr}
    (h : i = .ret ∨ i = .reti ∨ i = .push ∨ i = .pop ∨ i = .sflag ∨ i = .halt ∨ i = .nop) : Statement i :=
  .inr (.inr (.inr (.inr (.inr (.inr (.inl h))))))

/-! ### One lemma for each constructor -/

theorem addDirect (reg : Reg) (addr : Byte) : Statement (.addDirect reg addr) := ofMem .add reg (.direct addr) rfl rfl

theorem addIndexed (reg : Reg) (ix : Ix) (offset8 : Byte) : Statement (.addIndexed reg ix offset8) :=
  ofMem .add reg (.indexed ix offset8) rfl rfl

theorem addPostinc (reg : Reg) (ix : Ix) (offset7 : BitVec 7) : Statement (.addPostinc reg ix offset7) :=
  ofMem .add reg (.postinc ix offset7) rfl rfl

theorem addPredec (reg : Reg) (ix : Ix) (field7 : BitVec 7) : Statement (.addPredec reg ix field7) :=
  ofMem .add reg (.predec ix field7) rfl rfl

theorem addR3 (reg : Reg) (ix : Ix) : Statement (.addR3 reg ix) := ofMem .add reg (.r3 ix) rfl rfl

theorem addImm (reg : Reg) (data : Byte) : Statement (.addImm reg data) := ofImm .add reg data rfl rfl

theorem addReg3 (regi : Reg) (regj : Reg) (regk : Reg) : Statement (.addReg3 regi regj regk) :=
  ofTwo .add regi regj regk rfl rfl rfl

theorem addcDirect (reg : Reg) (addr : Byte) : Statement (.addcDirect reg addr) :=
  ofMem .addc reg (.direct addr) rfl rfl

theorem addcIndexed (reg : Reg) (ix : Ix) (offset8 : Byte) : Statement (.addcIndexed reg ix offset8) :=
  ofMem .addc reg (.indexed ix offset8) rfl rfl

theorem addcPostinc (reg : Reg) (ix : Ix) (offset7 : BitVec 7) : Statement (.addcPostinc reg ix offset7) :=
  ofMem .addc reg (.postinc ix offset7) rfl rfl

theorem addcPredec (reg : Reg) (ix : Ix) (field7 : BitVec 7) : Statement (.addcPredec reg ix field7) :=
  ofMem .addc reg (.predec ix field7) rfl rfl

theorem addcR3 (reg : Reg) (ix : Ix) : Statement (.addcR3 reg ix) := ofMem .addc reg (.r3 ix) rfl rfl

theorem addcImm (reg : Reg) (data : Byte) : Statement (.addcImm reg data) := ofImm .addc reg data rfl rfl

theorem addcReg3 (regi : Reg) (regj : Reg) (regk : Reg) : Statement (.addcReg3 regi regj regk) :=
  ofTwo .addc regi regj regk rfl rfl rfl

theorem andDirect (reg : Reg) (addr : Byte) : Statement (.andDirect reg addr) := ofMem .and reg (.direct addr) rfl rfl

theorem andIndexed (reg : Reg) (ix : Ix) (offset8 : Byte) : Statement (.andIndexed reg ix offset8) :=
  ofMem .and reg (.indexed ix offset8) rfl rfl

theorem andPostinc (reg : Reg) (ix : Ix) (offset7 : BitVec 7) : Statement (.andPostinc reg ix offset7) :=
  ofMem .and reg (.postinc ix offset7) rfl rfl

theorem andPredec (reg : Reg) (ix : Ix) (field7 : BitVec 7) : Statement (.andPredec reg ix field7) :=
  ofMem .and reg (.predec ix field7) rfl rfl

theorem andR3 (reg : Reg) (ix : Ix) : Statement (.andR3 reg ix) := ofMem .and reg (.r3 ix) rfl rfl

theorem andImm (reg : Reg) (data : Byte) : Statement (.andImm reg data) := ofImm .and reg data rfl rfl

theorem andReg3 (regi : Reg) (regj : Reg) (regk : Reg) : Statement (.andReg3 regi regj regk) :=
  ofTwo .and regi regj regk rfl rfl rfl

theorem cmpDirect (reg : Reg) (addr : Byte) : Statement (.cmpDirect reg addr) := ofMem .cmp reg (.direct addr) rfl rfl

theorem cmpIndexed (reg : Reg) (ix : Ix) (offset8 : Byte) : Statement (.cmpIndexed reg ix offset8) :=
  ofMem .cmp reg (.indexed ix offset8) rfl rfl

theorem cmpPostinc (reg : Reg) (ix : Ix) (offset7 : BitVec 7) : Statement (.cmpPostinc reg ix offset7) :=
  ofMem .cmp reg (.postinc ix offset7) rfl rfl

theorem cmpPredec (reg : Reg) (ix : Ix) (field7 : BitVec 7) : Statement (.cmpPredec reg ix field7) :=
  ofMem .cmp reg (.predec ix field7) rfl rfl

theorem cmpR3 (reg : Reg) (ix : Ix) : Statement (.cmpR3 reg ix) := ofMem .cmp reg (.r3 ix) rfl rfl

theorem cmpImm (reg : Reg) (data : Byte) : Statement (.cmpImm reg data) := ofImm .cmp reg data rfl rfl

theorem cmpRegs (regd : Reg) (regs : Reg) : Statement (.cmpRegs regd regs) := ofTwo .cmp regd regs regd rfl rfl rfl

theorem cmpaDirect (reg : Reg) (addr : Byte) : Statement (.cmpaDirect reg addr) :=
  ofMem .cmpa reg (.direct addr) rfl rfl

theorem cmpaIndexed (reg : Reg) (ix : Ix) (offset8 : Byte) : Statement (.cmpaIndexed reg ix offset8) :=
  ofMem .cmpa reg (.indexed ix offset8) rfl rfl

theorem cmpaPostinc (reg : Reg) (ix : Ix) (offset7 : BitVec 7) : Statement (.cmpaPostinc reg ix offset7) :=
  ofMem .cmpa reg (.postinc ix offset7) rfl rfl

theorem cmpaPredec (reg : Reg) (ix : Ix) (field7 : BitVec 7) : Statement (.cmpaPredec reg ix field7) :=
  ofMem .cmpa reg (.predec ix field7) rfl rfl

theorem cmpaR3 (reg : Reg) (ix : Ix) : Statement (.cmpaR3 reg ix) := ofMem .cmpa reg (.r3 ix) rfl rfl

theorem cmpaImm (reg : Reg) (data : Byte) : Statement (.cmpaImm reg data) := ofImm .cmpa reg data rfl rfl

theorem cmpaRegs (regd : Reg) (regs : Reg) : Statement (.cmpaRegs regd regs) := ofTwo .cmpa regd regs regd rfl rfl rfl

theorem cmvdDirect (reg : Reg) (addr : Byte) : Statement (.cmvdDirect reg addr) :=
  ofMem .cmvd reg (.direct addr) rfl rfl

theorem cmvdIndexed (reg : Reg) (ix : Ix) (offset8 : Byte) : Statement (.cmvdIndexed reg ix offset8) :=
  ofMem .cmvd reg (.indexed ix offset8) rfl rfl

theorem cmvdPostinc (reg : Reg) (ix : Ix) (offset7 : BitVec 7) : Statement (.cmvdPostinc reg ix offset7) :=
  ofMem .cmvd reg (.postinc ix offset7) rfl rfl

theorem cmvdPredec (reg : Reg) (ix : Ix) (field7 : BitVec 7) : Statement (.cmvdPredec reg ix field7) :=
  ofMem .cmvd reg (.predec ix field7) rfl rfl

theorem cmvdR3 (reg : Reg) (ix : Ix) : Statement (.cmvdR3 reg ix) := ofMem .cmvd reg (.r3 ix) rfl rfl

theorem cmvdReg2 (regi : Reg) (regj : Reg) : Statement (.cmvdReg2 regi regj) := ofOne .cmvd regi regj rfl rfl

theorem cmvsDirect (reg : Reg) (addr : Byte) : Statement (.cmvsDirect reg addr) :=
  ofMem .cmvs reg (.direct addr) rfl rfl

theorem cmvsIndexed (reg : Reg) (ix : Ix) (offset8 : Byte) : Statement (.cmvsIndexed reg ix offset8) :=
  ofMem .cmvs reg (.indexed ix offset8) rfl rfl

theorem cmvsPostinc (reg : Reg) (ix : Ix) (offset7 : BitVec 7) : Statement (.cmvsPostinc reg ix offset7) :=
  ofMem .cmvs reg (.postinc ix offset7) rfl rfl

theorem cmvsPredec (reg : Reg) (ix : Ix) (field7 : BitVec 7) : Statement (.cmvsPredec reg ix field7) :=
  ofMem .cmvs reg (.predec ix field7) rfl rfl

theorem cmvsR3 (reg : Reg) (ix : Ix) : Statement (.cmvsR3 reg ix) := ofMem .cmvs reg (.r3 ix) rfl rfl

theorem cmvsReg2 (regi : Reg) (regj : Reg) : Statement (.cmvsReg2 regi regj) := ofOne .cmvs regi regj rfl rfl

theorem cpl1Direct (reg : Reg) (addr : Byte) : Statement (.cpl1Direct reg addr) :=
  ofMem .cpl1 reg (.direct addr) rfl rfl

theorem cpl1Indexed (reg : Reg) (ix : Ix) (offset8 : Byte) : Statement (.cpl1Indexed reg ix offset8) :=
  ofMem .cpl1 reg (.indexed ix offset8) rfl rfl

theorem cpl1Postinc (reg : Reg) (ix : Ix) (offset7 : BitVec 7) : Statement (.cpl1Postinc reg ix offset7) :=
  ofMem .cpl1 reg (.postinc ix offset7) rfl rfl

theorem cpl1Predec (reg : Reg) (ix : Ix) (field7 : BitVec 7) : Statement (.cpl1Predec reg ix field7) :=
  ofMem .cpl1 reg (.predec ix field7) rfl rfl

theorem cpl1R3 (reg : Reg) (ix : Ix) : Statement (.cpl1R3 reg ix) := ofMem .cpl1 reg (.r3 ix) rfl rfl

theorem cpl1Reg2 (regi : Reg) (regj : Reg) : Statement (.cpl1Reg2 regi regj) := ofOne .cpl1 regi regj rfl rfl

theorem cpl2Direct (reg : Reg) (addr : Byte) : Statement (.cpl2Direct reg addr) :=
  ofMem .cpl2 reg (.direct addr) rfl rfl

theorem cpl2Indexed (reg : Reg) (ix : Ix) (offset8 : Byte) : Statement (.cpl2Indexed reg ix offset8) :=
  ofMem .cpl2 reg (.indexed ix offset8) rfl rfl

theorem cpl2Postinc (reg : Reg) (ix : Ix) (offset7 : BitVec 7) : Statement (.cpl2Postinc reg ix offset7) :=
  ofMem .cpl2 reg (.postinc ix offset7) rfl rfl

theorem cpl2Predec (reg : Reg) (ix : Ix) (field7 : BitVec 7) : Statement (.cpl2Predec reg ix field7) :=
  ofMem .cpl2 reg (.predec ix field7) rfl rfl

theorem cpl2R3 (reg : Reg) (ix : Ix) : Statement (.cpl2R3 reg ix) := ofMem .cpl2 reg (.r3 ix) rfl rfl

theorem cpl2Reg2 (regi : Reg) (regj : Reg) : Statement (.cpl2Reg2 regi regj) := ofOne .cpl2 regi regj rfl rfl

theorem cpl2cDirect (reg : Reg) (addr : Byte) : Statement (.cpl2cDirect reg addr) :=
  ofMem .cpl2c reg (.direct addr) rfl rfl

theorem cpl2cIndexed (reg : Reg) (ix : Ix) (offset8 : Byte) : Statement (.cpl2cIndexed reg ix offset8) :=
  ofMem .cpl2c reg (.indexed ix offset8) rfl rfl

theorem cpl2cPostinc (reg : Reg) (ix : Ix) (offset7 : BitVec 7) : Statement (.cpl2cPostinc reg ix offset7) :=
  ofMem .cpl2c reg (.postinc ix offset7) rfl rfl

theorem cpl2cPredec (reg : Reg) (ix : Ix) (field7 : BitVec 7) : Statement (.cpl2cPredec reg ix field7) :=
  ofMem .cpl2c reg (.predec ix field7) rfl rfl

theorem cpl2cR3 (reg : Reg) (ix : Ix) : Statement (.cpl2cR3 reg ix) := ofMem .cpl2c reg (.r3 ix) rfl rfl

theorem cpl2cReg2 (regi : Reg) (regj : Reg) : Statement (.cpl2cReg2 regi regj) := ofOne .cpl2c regi regj rfl rfl

theorem decDirect (reg : Reg) (addr : Byte) : Statement (.decDirect reg addr) := ofMem .dec reg (.direct addr) rfl rfl

theorem decIndexed (reg : Reg) (ix : Ix) (offset8 : Byte) : Statement (.decIndexed reg ix offset8) :=
  ofMem .dec reg (.indexed ix offset8) rfl rfl

theorem decPostinc (reg : Reg) (ix : Ix) (offset7 : BitVec 7) : Statement (.decPostinc reg ix offset7) :=
  ofMem .dec reg (.postinc ix offset7) rfl rfl

theorem decPredec (reg : Reg) (ix : Ix) (field7 : BitVec 7) : Statement (.decPredec reg ix field7) :=
  ofMem .dec reg (.predec ix field7) rfl rfl

theorem decR3 (reg : Reg) (ix : Ix) : Statement (.decR3 reg ix) := ofMem .dec reg (.r3 ix) rfl rfl

theorem decReg2 (regi : Reg) (regj : Reg) : Statement (.decReg2 regi regj) := ofOne .dec regi regj rfl rfl

theorem deccDirect (reg : Reg) (addr : Byte) : Statement (.deccDirect reg addr) :=
  ofMem .decc reg (.direct addr) rfl rfl

theorem deccIndexed (reg : Reg) (ix : Ix) (offset8 : Byte) : Statement (.deccIndexed reg ix offset8) :=
  ofMem .decc reg (.indexed ix offset8) rfl rfl

theorem deccPostinc (reg : Reg) (ix : Ix) (offset7 : BitVec 7) : Statement (.deccPostinc reg ix offset7) :=
  ofMem .decc reg (.postinc ix offset7) rfl rfl

theorem deccPredec (reg : Reg) (ix : Ix) (field7 : BitVec 7) : Statement (.deccPredec reg ix field7) :=
  ofMem .decc reg (.predec ix field7) rfl rfl

theorem deccR3 (reg : Reg) (ix : Ix) : Statement (.deccR3 reg ix) := ofMem .decc reg (.r3 ix) rfl rfl

theorem deccReg2 (regi : Reg) (regj : Reg) : Statement (.deccReg2 regi regj) := ofOne .decc regi regj rfl rfl

theorem incDirect (reg : Reg) (addr : Byte) : Statement (.incDirect reg addr) := ofMem .inc reg (.direct addr) rfl rfl

theorem incIndexed (reg : Reg) (ix : Ix) (offset8 : Byte) : Statement (.incIndexed reg ix offset8) :=
  ofMem .inc reg (.indexed ix offset8) rfl rfl

theorem incPostinc (reg : Reg) (ix : Ix) (offset7 : BitVec 7) : Statement (.incPostinc reg ix offset7) :=
  ofMem .inc reg (.postinc ix offset7) rfl rfl

theorem incPredec (reg : Reg) (ix : Ix) (field7 : BitVec 7) : Statement (.incPredec reg ix field7) :=
  ofMem .inc reg (.predec ix field7) rfl rfl

theorem incR3 (reg : Reg) (ix : Ix) : Statement (.incR3 reg ix) := ofMem .inc reg (.r3 ix) rfl rfl

theorem incReg2 (regi : Reg) (regj : Reg) : Statement (.incReg2 regi regj) := ofOne .inc regi regj rfl rfl

theorem inccDirect (reg : Reg) (addr : Byte) : Statement (.inccDirect reg addr) :=
  ofMem .incc reg (.direct addr) rfl rfl

theorem inccIndexed (reg : Reg) (ix : Ix) (offset8 : Byte) : Statement (.inccIndexed reg ix offset8) :=
  ofMem .incc reg (.indexed ix offset8) rfl rfl

theorem inccPostinc (reg : Reg) (ix : Ix) (offset7 : BitVec 7) : Statement (.inccPostinc reg ix offset7) :=
  ofMem .incc reg (.postinc ix offset7) rfl rfl

theorem inccPredec (reg : Reg) (ix : Ix) (field7 : BitVec 7) : Statement (.inccPredec reg ix field7) :=
  ofMem .incc reg (.predec ix field7) rfl rfl

theorem inccR3 (reg : Reg) (ix : Ix) : Statement (.inccR3 reg ix) := ofMem .incc reg (.r3 ix) rfl rfl

theorem inccReg2 (regi : Reg) (regj : Reg) : Statement (.inccReg2 regi regj) := ofOne .incc regi regj rfl rfl

theorem moveDirect (reg : Reg) (addr : Byte) : Statement (.moveDirect reg addr) :=
  ofMem .move reg (.direct addr) rfl rfl

theorem moveIndexed (reg : Reg) (ix : Ix) (offset8 : Byte) : Statement (.moveIndexed reg ix offset8) :=
  ofMem .move reg (.indexed ix offset8) rfl rfl

theorem movePostinc (reg : Reg) (ix : Ix) (offset7 : BitVec 7) : Statement (.movePostinc reg ix offset7) :=
  ofMem .move reg (.postinc ix offset7) rfl rfl

theorem movePredec (reg : Reg) (ix : Ix) (field7 : BitVec 7) : Statement (.movePredec reg ix field7) :=
  ofMem .move reg (.predec ix field7) rfl rfl

theorem moveR3 (reg : Reg) (ix : Ix) : Statement (.moveR3 reg ix) := ofMem .move reg (.r3 ix) rfl rfl

theorem moveImm (reg : Reg) (data : Byte) : Statement (.moveImm reg data) := ofImm .move reg data rfl rfl

theorem moveReg2 (regi : Reg) (regj : Reg) : Statement (.moveReg2 regi regj) := ofOne .move regi regj rfl rfl

theorem moveToDirect (reg : Reg) (addr : Byte) : Statement (.moveToDirect reg addr) := ofStore reg (.direct addr) rfl

theorem moveToIndexed (reg : Reg) (ix : Ix) (offset8 : Byte) : Statement (.moveToIndexed reg ix offset8) :=
  ofStore reg (.indexed ix offset8) rfl

theorem moveToPostinc (reg : Reg) (ix : Ix) (offset7 : BitVec 7) : Statement (.moveToPostinc reg ix offset7) :=
  ofStore reg (.postinc ix offset7) rfl

theorem moveToPredec (reg : Reg) (ix : Ix) (field7 : BitVec 7) : Statement (.moveToPredec reg ix field7) :=
  ofStore reg (.predec ix field7) rfl

theorem moveToR3 (reg : Reg) (ix : Ix) : Statement (.moveToR3 reg ix) := ofStore reg (.r3 ix) rfl

theorem moveToDirectImm (addr : Byte) (data : Byte) : Statement (.moveToDirectImm addr data) :=
  .inr (.inr (.inl ⟨addr, data, rfl⟩))

theorem mulDirect (reg : Reg) (addr : Byte) : Statement (.mulDirect reg addr) := ofMem .mul reg (.direct addr) rfl rfl

theorem mulIndexed (reg : Reg) (ix : Ix) (offset8 : Byte) : Statement (.mulIndexed reg ix offset8) :=
  ofMem .mul reg (.indexed ix offset8) rfl rfl

theorem mulPostinc (reg : Reg) (ix : Ix) (offset7 : BitVec 7) : Statement (.mulPostinc reg ix offset7) :=
  ofMem .mul reg (.postinc ix offset7) rfl rfl

theorem mulPredec (reg : Reg) (ix : Ix) (field7 : BitVec 7) : Statement (.mulPredec reg ix field7) :=
  ofMem .mul reg (.predec ix field7) rfl rfl

theorem mulR3 (reg : Reg) (ix : Ix) : Statement (.mulR3 reg ix) := ofMem .mul reg (.r3 ix) rfl rfl

theorem mulImm (reg : Reg) (data : Byte) : Statement (.mulImm reg data) := ofImm .mul reg data rfl rfl

theorem mulReg3 (regi : Reg) (regj : Reg) (regk : Reg) : Statement (.mulReg3 regi regj regk) :=
  ofTwo .mul regi regj regk rfl rfl rfl

theorem mulaDirect (reg : Reg) (addr : Byte) : Statement (.mulaDirect reg addr) :=
  ofMem .mula reg (.direct addr) rfl rfl

theorem mulaIndexed (reg : Reg) (ix : Ix) (offset8 : Byte) : Statement (.mulaIndexed reg ix offset8) :=
  ofMem .mula reg (.indexed ix offset8) rfl rfl

theorem mulaPostinc (reg : Reg) (ix : Ix) (offset7 : BitVec 7) : Statement (.mulaPostinc reg ix offset7) :=
  ofMem .mula reg (.postinc ix offset7) rfl rfl

theorem mulaPredec (reg : Reg) (ix : Ix) (field7 : BitVec 7) : Statement (.mulaPredec reg ix field7) :=
  ofMem .mula reg (.predec ix field7) rfl rfl

theorem mulaR3 (reg : Reg) (ix : Ix) : Statement (.mulaR3 reg ix) := ofMem .mula reg (.r3 ix) rfl rfl

theorem mulaImm (reg : Reg) (data : Byte) : Statement (.mulaImm reg data) := ofImm .mula reg data rfl rfl

theorem mulaReg3 (regi : Reg) (regj : Reg) (regk : Reg) : Statement (.mulaReg3 regi regj regk) :=
  ofTwo .mula regi regj regk rfl rfl rfl

theorem orDirect (reg : Reg) (addr : Byte) : Statement (.orDirect reg addr) := ofMem .or reg (.direct addr) rfl rfl

theorem orIndexed (reg : Reg) (ix : Ix) (offset8 : Byte) : Statement (.orIndexed reg ix offset8) :=
  ofMem .or reg (.indexed ix offset8) rfl rfl

theorem orPostinc (reg : Reg) (ix : Ix) (offset7 : BitVec 7) : Statement (.orPostinc reg ix offset7) :=
  ofMem .or reg (.postinc ix offset7) rfl rfl

theorem orPredec (reg : Reg) (ix : Ix) (field7 : BitVec 7) : Statement (.orPredec reg ix field7) :=
  ofMem .or reg (.predec ix field7) rfl rfl

theorem orR3 (reg : Reg) (ix : Ix) : Statement (.orR3 reg ix) := ofMem .or reg (.r3 ix) rfl rfl

theorem orImm (reg : Reg) (data : Byte) : Statement (.orImm reg data) := ofImm .or reg data rfl rfl

theorem orReg3 (regi : Reg) (regj : Reg) (regk : Reg) : Statement (.orReg3 regi regj regk) :=
  ofTwo .or regi regj regk rfl rfl rfl

theorem shlDirect (reg : Reg) (addr : Byte) : Statement (.shlDirect reg addr) := ofMem .shl reg (.direct addr) rfl rfl

theorem shlIndexed (reg : Reg) (ix : Ix) (offset8 : Byte) : Statement (.shlIndexed reg ix offset8) :=
  ofMem .shl reg (.indexed ix offset8) rfl rfl

theorem shlPostinc (reg : Reg) (ix : Ix) (offset7 : BitVec 7) : Statement (.shlPostinc reg ix offset7) :=
  ofMem .shl reg (.postinc ix offset7) rfl rfl

theorem shlPredec (reg : Reg) (ix : Ix) (field7 : BitVec 7) : Statement (.shlPredec reg ix field7) :=
  ofMem .shl reg (.predec ix field7) rfl rfl

theorem shlR3 (reg : Reg) (ix : Ix) : Statement (.shlR3 reg ix) := ofMem .shl reg (.r3 ix) rfl rfl

theorem shlReg2 (regi : Reg) (regj : Reg) : Statement (.shlReg2 regi regj) := ofOne .shl regi regj rfl rfl

theorem shlcDirect (reg : Reg) (addr : Byte) : Statement (.shlcDirect reg addr) :=
  ofMem .shlc reg (.direct addr) rfl rfl

theorem shlcIndexed (reg : Reg) (ix : Ix) (offset8 : Byte) : Statement (.shlcIndexed reg ix offset8) :=
  ofMem .shlc reg (.indexed ix offset8) rfl rfl

theorem shlcPostinc (reg : Reg) (ix : Ix) (offset7 : BitVec 7) : Statement (.shlcPostinc reg ix offset7) :=
  ofMem .shlc reg (.postinc ix offset7) rfl rfl

theorem shlcPredec (reg : Reg) (ix : Ix) (field7 : BitVec 7) : Statement (.shlcPredec reg ix field7) :=
  ofMem .shlc reg (.predec ix field7) rfl rfl

theorem shlcR3 (reg : Reg) (ix : Ix) : Statement (.shlcR3 reg ix) := ofMem .shlc reg (.r3 ix) rfl rfl

theorem shlcReg2 (regi : Reg) (regj : Reg) : Statement (.shlcReg2 regi regj) := ofOne .shlc regi regj rfl rfl

theorem shrDirect (reg : Reg) (addr : Byte) : Statement (.shrDirect reg addr) := ofMem .shr reg (.direct addr) rfl rfl

theorem shrIndexed (reg : Reg) (ix : Ix) (offset8 : Byte) : Statement (.shrIndexed reg ix offset8) :=
  ofMem .shr reg (.indexed ix offset8) rfl rfl

theorem shrPostinc (reg : Reg) (ix : Ix) (offset7 : BitVec 7) : Statement (.shrPostinc reg ix offset7) :=
  ofMem .shr reg (.postinc ix offset7) rfl rfl

theorem shrPredec (reg : Reg) (ix : Ix) (field7 : BitVec 7) : Statement (.shrPredec reg ix field7) :=
  ofMem .shr reg (.predec ix field7) rfl rfl

theorem shrR3 (reg : Reg) (ix : Ix) : Statement (.shrR3 reg ix) := ofMem .shr reg (.r3 ix) rfl rfl

theorem shrReg2 (regi : Reg) (regj : Reg) : Statement (.shrReg2 regi regj) := ofOne .shr regi regj rfl rfl

theorem shraDirect (reg : Reg) (addr : Byte) : Statement (.shraDirect reg addr) :=
  ofMem .shra reg (.direct addr) rfl rfl

theorem shraIndexed (reg : Reg) (ix : Ix) (offset8 : Byte) : Statement (.shraIndexed reg ix offset8) :=
  ofMem .shra reg (.indexed ix offset8) rfl rfl

theorem shraPostinc (reg : Reg) (ix : Ix) (offset7 : BitVec 7) : Statement (.shraPostinc reg ix offset7) :=
  ofMem .shra reg (.postinc ix offset7) rfl rfl

theorem shraPredec (reg : Reg) (ix : Ix) (field7 : BitVec 7) : Statement (.shraPredec reg ix field7) :=
  ofMem .shra reg (.predec ix field7) rfl rfl

theorem shraR3 (reg : Reg) (ix : Ix) : Statement (.shraR3 reg ix) := ofMem .shra reg (.r3 ix) rfl rfl

theorem shraReg2 (regi : Reg) (regj : Reg) : Statement (.shraReg2 regi regj) := ofOne .shra regi regj rfl rfl

theorem shrcDirect (reg : Reg) (addr : Byte) : Statement (.shrcDirect reg addr) :=
  ofMem .shrc reg (.direct addr) rfl rfl

theorem shrcIndexed (reg : Reg) (ix : Ix) (offset8 : Byte) : Statement (.shrcIndexed reg ix offset8) :=
  ofMem .shrc reg (.indexed ix offset8) rfl rfl

theorem shrcPostinc (reg : Reg) (ix : Ix) (offset7 : BitVec 7) : Statement (.shrcPostinc reg ix offset7) :=
  ofMem .shrc reg (.postinc ix offset7) rfl rfl

theorem shrcPredec (reg : Reg) (ix : Ix) (field7 : BitVec 7) : Statement (.shrcPredec reg ix field7) :=
  ofMem .shrc reg (.predec ix field7) rfl rfl

theorem shrcR3 (reg : Reg) (ix : Ix) : Statement (.shrcR3 reg ix) := ofMem .shrc reg (.r3 ix) rfl rfl

theorem shrcReg2 (regi : Reg) (regj : Reg) : Statement (.shrcReg2 regi regj) := ofOne .shrc regi regj rfl rfl

theorem subdDirect (reg : Reg) (addr : Byte) : Statement (.subdDirect reg addr) :=
  ofMem .subd reg (.direct addr) rfl rfl

theorem subdIndexed (reg : Reg) (ix : Ix) (offset8 : Byte) : Statement (.subdIndexed reg ix offset8) :=
  ofMem .subd reg (.indexed ix offset8) rfl rfl

theorem subdPostinc (reg : Reg) (ix : Ix) (offset7 : BitVec 7) : Statement (.subdPostinc reg ix offset7) :=
  ofMem .subd reg (.postinc ix offset7) rfl rfl

theorem subdPredec (reg : Reg) (ix : Ix) (field7 : BitVec 7) : Statement (.subdPredec reg ix field7) :=
  ofMem .subd reg (.predec ix field7) rfl rfl

theorem subdR3 (reg : Reg) (ix : Ix) : Statement (.subdR3 reg ix) := ofMem .subd reg (.r3 ix) rfl rfl

theorem subdImm (reg : Reg) (data : Byte) : Statement (.subdImm reg data) := ofImm .subd reg data rfl rfl

theorem subdReg3 (regi : Reg) (regj : Reg) (regk : Reg) : Statement (.subdReg3 regi regj regk) :=
  ofTwo .subd regi regj regk rfl rfl rfl

theorem subdcDirect (reg : Reg) (addr : Byte) : Statement (.subdcDirect reg addr) :=
  ofMem .subdc reg (.direct addr) rfl rfl

theorem subdcIndexed (reg : Reg) (ix : Ix) (offset8 : Byte) : Statement (.subdcIndexed reg ix offset8) :=
  ofMem .subdc reg (.indexed ix offset8) rfl rfl

theorem subdcPostinc (reg : Reg) (ix : Ix) (offset7 : BitVec 7) : Statement (.subdcPostinc reg ix offset7) :=
  ofMem .subdc reg (.postinc ix offset7) rfl rfl

theorem subdcPredec (reg : Reg) (ix : Ix) (field7 : BitVec 7) : Statement (.subdcPredec reg ix field7) :=
  ofMem .subdc reg (.predec ix field7) rfl rfl

theorem subdcR3 (reg : Reg) (ix : Ix) : Statement (.subdcR3 reg ix) := ofMem .subdc reg (.r3 ix) rfl rfl

theorem subdcImm (reg : Reg) (data : Byte) : Statement (.subdcImm reg data) := ofImm .subdc reg data rfl rfl

theorem subdcReg3 (regi : Reg) (regj : Reg) (regk : Reg) : Statement (.subdcReg3 regi regj regk) :=
  ofTwo .subdc regi regj regk rfl rfl rfl

theorem subsDirect (reg : Reg) (addr : Byte) : Statement (.subsDirect reg addr) :=
  ofMem .subs reg (.direct addr) rfl rfl

theorem subsIndexed (reg : Reg) (ix : Ix) (offset8 : Byte) : Statement (.subsIndexed reg ix offset8) :=
  ofMem .subs reg (.indexed ix offset8) rfl rfl

theorem subsPostinc (reg : Reg) (ix : Ix) (offset7 : BitVec 7) : Statement (.subsPostinc reg ix offset7) :=
  ofMem .subs reg (.postinc ix offset7) rfl rfl

theorem subsPredec (reg : Reg) (ix : Ix) (field7 : BitVec 7) : Statement (.subsPredec reg ix field7) :=
  ofMem .subs reg (.predec ix field7) rfl rfl

theorem subsR3 (reg : Reg) (ix : Ix) : Statement (.subsR3 reg ix) := ofMem .subs reg (.r3 ix) rfl rfl

theorem subsImm (reg : Reg) (data : Byte) : Statement (.subsImm reg data) := ofImm .subs reg data rfl rfl

theorem subsReg3 (regi : Reg) (regj : Reg) (regk : Reg) : Statement (.subsReg3 regi regj regk) :=
  ofTwo .subs regi regj regk rfl rfl rfl

theorem subscDirect (reg : Reg) (addr : Byte) : Statement (.subscDirect reg addr) :=
  ofMem .subsc reg (.direct addr) rfl rfl

theorem subscIndexed (reg : Reg) (ix : Ix) (offset8 : Byte) : Statement (.subscIndexed reg ix offset8) :=
  ofMem .subsc reg (.indexed ix offset8) rfl rfl

theorem subscPostinc (reg : Reg) (ix : Ix) (offset7 : BitVec 7) : Statement (.subscPostinc reg ix offset7) :=
  ofMem .subsc reg (.postinc ix offset7) rfl rfl

theorem subscPredec (reg : Reg) (ix : Ix) (field7 : BitVec 7) : Statement (.subscPredec reg ix field7) :=
  ofMem .subsc reg (.predec ix field7) rfl rfl

theorem subscR3 (reg : Reg) (ix : Ix) : Statement (.subscR3 reg ix) := ofMem .subsc reg (.r3 ix) rfl rfl

theorem subscImm (reg : Reg) (data : Byte) : Statement (.subscImm reg data) := ofImm .subsc reg data rfl rfl

theorem subscReg3 (regi : Reg) (regj : Reg) (regk : Reg) : Statement (.subscReg3 regi regj regk) :=
  ofTwo .subsc regi regj regk rfl rfl rfl

theorem xorDirect (reg : Reg) (addr : Byte) : Statement (.xorDirect reg addr) := ofMem .xor reg (.direct addr) rfl rfl

theorem xorIndexed (reg : Reg) (ix : Ix) (offset8 : Byte) : Statement (.xorIndexed reg ix offset8) :=
  ofMem .xor reg (.indexed ix offset8) rfl rfl

theorem xorPostinc (reg : Reg) (ix : Ix) (offset7 : BitVec 7) : Statement (.xorPostinc reg ix offset7) :=
  ofMem .xor reg (.postinc ix offset7) rfl rfl

theorem xorPredec (reg : Reg) (ix : Ix) (field7 : BitVec 7) : Statement (.xorPredec reg ix field7) :=
  ofMem .xor reg (.predec ix field7) rfl rfl

theorem xorR3 (reg : Reg) (ix : Ix) : Statement (.xorR3 reg ix) := ofMem .xor reg (.r3 ix) rfl rfl

theorem xorImm (reg : Reg) (data : Byte) : Statement (.xorImm reg data) := ofImm .xor reg data rfl rfl

theorem xorReg3 (regi : Reg) (regj : Reg) (regk : Reg) : Statement (.xorReg3 regi regj regk) :=
  ofTwo .xor regi regj regk rfl rfl rfl

theorem tstbImm (reg : Reg) (data : Byte) : Statement (.tstbImm reg data) := ofImm .tstb reg data rfl rfl

theorem jccAbs (target : Word) : Statement (.jccAbs target) := ofJcc .cc (.abs target) rfl

theorem jccIp : Statement .jccIp := ofJcc .cc .ip rfl

theorem jvcAbs (target : Word) : Statement (.jvcAbs target) := ofJcc .vc (.abs target) rfl

theorem jvcIp : Statement .jvcIp := ofJcc .vc .ip rfl

theorem jzcAbs (target : Word) : Statement (.jzcAbs target) := ofJcc .zc (.abs target) rfl

theorem jzcIp : Statement .jzcIp := ofJcc .zc .ip rfl

theorem jumpAbs (target : Word) : Statement (.jumpAbs target) := ofJcc .always (.abs target) rfl

theorem jumpIp : Statement .jumpIp := ofJcc .always .ip rfl

theorem jcsAbs (target : Word) : Statement (.jcsAbs target) := ofJcc .cs (.abs target) rfl

theorem jcsIp : Statement .jcsIp := ofJcc .cs .ip rfl

theorem jvsAbs (target : Word) : Statement (.jvsAbs target) := ofJcc .vs (.abs target) rfl

theorem jvsIp : Statement .jvsIp := ofJcc .vs .ip rfl

theorem jzsAbs (target : Word) : Statement (.jzsAbs target) := ofJcc .zs (.abs target) rfl

theorem jzsIp : Statement .jzsIp := ofJcc .zs .ip rfl

theorem jevAbs (target : Word) : Statement (.jevAbs target) := ofJcc .ev (.abs target) rfl

theorem jevIp : Statement .jevIp := ofJcc .ev .ip rfl

theorem callAbs (target : Word) : Statement (.callAbs target) := ofCall (.abs target)

theorem callIp : Statement .callIp := ofCall .ip

theorem callsAbs (target : Word) : Statement (.callsAbs target) := ofCalls (.abs target)

theorem callsIp : Statement .callsIp := ofCalls .ip

theorem ret : Statement .ret := ofAlone (by simp)

theorem reti : Statement .reti := ofAlone (by simp)

theorem pop : Statement .pop := ofAlone (by simp)

theorem push : Statement .push := ofAlone (by simp)

theorem nop : Statement .nop := ofAlone (by simp)

theorem halt : Statement .halt := ofAlone (by simp)

theorem sflag : Statement .sflag := ofAlone (by simp)

theorem pmd (on : Bool) : Statement (.pmd on) := .inr (.inr (.inr (.inr (.inr (.inr (.inr (.inl ⟨on, rfl⟩)))))))

theorem freq (divn : BitVec 4) : Statement (.freq divn) :=
  .inr (.inr (.inr (.inr (.inr (.inr (.inr (.inr ⟨divn, rfl⟩)))))))

end Sys2Proof.Laws.Classified

/-- Every instruction is classified. -/
theorem Sys2Proof.Laws.classified (i : Sys2Proof.Instr) : Sys2Proof.Laws.Classified.Statement i :=
  match i with
  | .addDirect reg addr => Sys2Proof.Laws.Classified.addDirect reg addr
  | .addIndexed reg ix offset8 => Sys2Proof.Laws.Classified.addIndexed reg ix offset8
  | .addPostinc reg ix offset7 => Sys2Proof.Laws.Classified.addPostinc reg ix offset7
  | .addPredec reg ix field7 => Sys2Proof.Laws.Classified.addPredec reg ix field7
  | .addR3 reg ix => Sys2Proof.Laws.Classified.addR3 reg ix
  | .addImm reg data => Sys2Proof.Laws.Classified.addImm reg data
  | .addReg3 regi regj regk => Sys2Proof.Laws.Classified.addReg3 regi regj regk
  | .addcDirect reg addr => Sys2Proof.Laws.Classified.addcDirect reg addr
  | .addcIndexed reg ix offset8 => Sys2Proof.Laws.Classified.addcIndexed reg ix offset8
  | .addcPostinc reg ix offset7 => Sys2Proof.Laws.Classified.addcPostinc reg ix offset7
  | .addcPredec reg ix field7 => Sys2Proof.Laws.Classified.addcPredec reg ix field7
  | .addcR3 reg ix => Sys2Proof.Laws.Classified.addcR3 reg ix
  | .addcImm reg data => Sys2Proof.Laws.Classified.addcImm reg data
  | .addcReg3 regi regj regk => Sys2Proof.Laws.Classified.addcReg3 regi regj regk
  | .andDirect reg addr => Sys2Proof.Laws.Classified.andDirect reg addr
  | .andIndexed reg ix offset8 => Sys2Proof.Laws.Classified.andIndexed reg ix offset8
  | .andPostinc reg ix offset7 => Sys2Proof.Laws.Classified.andPostinc reg ix offset7
  | .andPredec reg ix field7 => Sys2Proof.Laws.Classified.andPredec reg ix field7
  | .andR3 reg ix => Sys2Proof.Laws.Classified.andR3 reg ix
  | .andImm reg data => Sys2Proof.Laws.Classified.andImm reg data
  | .andReg3 regi regj regk => Sys2Proof.Laws.Classified.andReg3 regi regj regk
  | .cmpDirect reg addr => Sys2Proof.Laws.Classified.cmpDirect reg addr
  | .cmpIndexed reg ix offset8 => Sys2Proof.Laws.Classified.cmpIndexed reg ix offset8
  | .cmpPostinc reg ix offset7 => Sys2Proof.Laws.Classified.cmpPostinc reg ix offset7
  | .cmpPredec reg ix field7 => Sys2Proof.Laws.Classified.cmpPredec reg ix field7
  | .cmpR3 reg ix => Sys2Proof.Laws.Classified.cmpR3 reg ix
  | .cmpImm reg data => Sys2Proof.Laws.Classified.cmpImm reg data
  | .cmpRegs regd regs => Sys2Proof.Laws.Classified.cmpRegs regd regs
  | .cmpaDirect reg addr => Sys2Proof.Laws.Classified.cmpaDirect reg addr
  | .cmpaIndexed reg ix offset8 => Sys2Proof.Laws.Classified.cmpaIndexed reg ix offset8
  | .cmpaPostinc reg ix offset7 => Sys2Proof.Laws.Classified.cmpaPostinc reg ix offset7
  | .cmpaPredec reg ix field7 => Sys2Proof.Laws.Classified.cmpaPredec reg ix field7
  | .cmpaR3 reg ix => Sys2Proof.Laws.Classified.cmpaR3 reg ix
  | .cmpaImm reg data => Sys2Proof.Laws.Classified.cmpaImm reg data
  | .cmpaRegs regd regs => Sys2Proof.Laws.Classified.cmpaRegs regd regs
  | .cmvdDirect reg addr => Sys2Proof.Laws.Classified.cmvdDirect reg addr
  | .cmvdIndexed reg ix offset8 => Sys2Proof.Laws.Classified.cmvdIndexed reg ix offset8
  | .cmvdPostinc reg ix offset7 => Sys2Proof.Laws.Classified.cmvdPostinc reg ix offset7
  | .cmvdPredec reg ix field7 => Sys2Proof.Laws.Classified.cmvdPredec reg ix field7
  | .cmvdR3 reg ix => Sys2Proof.Laws.Classified.cmvdR3 reg ix
  | .cmvdReg2 regi regj => Sys2Proof.Laws.Classified.cmvdReg2 regi regj
  | .cmvsDirect reg addr => Sys2Proof.Laws.Classified.cmvsDirect reg addr
  | .cmvsIndexed reg ix offset8 => Sys2Proof.Laws.Classified.cmvsIndexed reg ix offset8
  | .cmvsPostinc reg ix offset7 => Sys2Proof.Laws.Classified.cmvsPostinc reg ix offset7
  | .cmvsPredec reg ix field7 => Sys2Proof.Laws.Classified.cmvsPredec reg ix field7
  | .cmvsR3 reg ix => Sys2Proof.Laws.Classified.cmvsR3 reg ix
  | .cmvsReg2 regi regj => Sys2Proof.Laws.Classified.cmvsReg2 regi regj
  | .cpl1Direct reg addr => Sys2Proof.Laws.Classified.cpl1Direct reg addr
  | .cpl1Indexed reg ix offset8 => Sys2Proof.Laws.Classified.cpl1Indexed reg ix offset8
  | .cpl1Postinc reg ix offset7 => Sys2Proof.Laws.Classified.cpl1Postinc reg ix offset7
  | .cpl1Predec reg ix field7 => Sys2Proof.Laws.Classified.cpl1Predec reg ix field7
  | .cpl1R3 reg ix => Sys2Proof.Laws.Classified.cpl1R3 reg ix
  | .cpl1Reg2 regi regj => Sys2Proof.Laws.Classified.cpl1Reg2 regi regj
  | .cpl2Direct reg addr => Sys2Proof.Laws.Classified.cpl2Direct reg addr
  | .cpl2Indexed reg ix offset8 => Sys2Proof.Laws.Classified.cpl2Indexed reg ix offset8
  | .cpl2Postinc reg ix offset7 => Sys2Proof.Laws.Classified.cpl2Postinc reg ix offset7
  | .cpl2Predec reg ix field7 => Sys2Proof.Laws.Classified.cpl2Predec reg ix field7
  | .cpl2R3 reg ix => Sys2Proof.Laws.Classified.cpl2R3 reg ix
  | .cpl2Reg2 regi regj => Sys2Proof.Laws.Classified.cpl2Reg2 regi regj
  | .cpl2cDirect reg addr => Sys2Proof.Laws.Classified.cpl2cDirect reg addr
  | .cpl2cIndexed reg ix offset8 => Sys2Proof.Laws.Classified.cpl2cIndexed reg ix offset8
  | .cpl2cPostinc reg ix offset7 => Sys2Proof.Laws.Classified.cpl2cPostinc reg ix offset7
  | .cpl2cPredec reg ix field7 => Sys2Proof.Laws.Classified.cpl2cPredec reg ix field7
  | .cpl2cR3 reg ix => Sys2Proof.Laws.Classified.cpl2cR3 reg ix
  | .cpl2cReg2 regi regj => Sys2Proof.Laws.Classified.cpl2cReg2 regi regj
  | .decDirect reg addr => Sys2Proof.Laws.Classified.decDirect reg addr
  | .decIndexed reg ix offset8 => Sys2Proof.Laws.Classified.decIndexed reg ix offset8
  | .decPostinc reg ix offset7 => Sys2Proof.Laws.Classified.decPostinc reg ix offset7
  | .decPredec reg ix field7 => Sys2Proof.Laws.Classified.decPredec reg ix field7
  | .decR3 reg ix => Sys2Proof.Laws.Classified.decR3 reg ix
  | .decReg2 regi regj => Sys2Proof.Laws.Classified.decReg2 regi regj
  | .deccDirect reg addr => Sys2Proof.Laws.Classified.deccDirect reg addr
  | .deccIndexed reg ix offset8 => Sys2Proof.Laws.Classified.deccIndexed reg ix offset8
  | .deccPostinc reg ix offset7 => Sys2Proof.Laws.Classified.deccPostinc reg ix offset7
  | .deccPredec reg ix field7 => Sys2Proof.Laws.Classified.deccPredec reg ix field7
  | .deccR3 reg ix => Sys2Proof.Laws.Classified.deccR3 reg ix
  | .deccReg2 regi regj => Sys2Proof.Laws.Classified.deccReg2 regi regj
  | .incDirect reg addr => Sys2Proof.Laws.Classified.incDirect reg addr
  | .incIndexed reg ix offset8 => Sys2Proof.Laws.Classified.incIndexed reg ix offset8
  | .incPostinc reg ix offset7 => Sys2Proof.Laws.Classified.incPostinc reg ix offset7
  | .incPredec reg ix field7 => Sys2Proof.Laws.Classified.incPredec reg ix field7
  | .incR3 reg ix => Sys2Proof.Laws.Classified.incR3 reg ix
  | .incReg2 regi regj => Sys2Proof.Laws.Classified.incReg2 regi regj
  | .inccDirect reg addr => Sys2Proof.Laws.Classified.inccDirect reg addr
  | .inccIndexed reg ix offset8 => Sys2Proof.Laws.Classified.inccIndexed reg ix offset8
  | .inccPostinc reg ix offset7 => Sys2Proof.Laws.Classified.inccPostinc reg ix offset7
  | .inccPredec reg ix field7 => Sys2Proof.Laws.Classified.inccPredec reg ix field7
  | .inccR3 reg ix => Sys2Proof.Laws.Classified.inccR3 reg ix
  | .inccReg2 regi regj => Sys2Proof.Laws.Classified.inccReg2 regi regj
  | .moveDirect reg addr => Sys2Proof.Laws.Classified.moveDirect reg addr
  | .moveIndexed reg ix offset8 => Sys2Proof.Laws.Classified.moveIndexed reg ix offset8
  | .movePostinc reg ix offset7 => Sys2Proof.Laws.Classified.movePostinc reg ix offset7
  | .movePredec reg ix field7 => Sys2Proof.Laws.Classified.movePredec reg ix field7
  | .moveR3 reg ix => Sys2Proof.Laws.Classified.moveR3 reg ix
  | .moveImm reg data => Sys2Proof.Laws.Classified.moveImm reg data
  | .moveReg2 regi regj => Sys2Proof.Laws.Classified.moveReg2 regi regj
  | .moveToDirect reg addr => Sys2Proof.Laws.Classified.moveToDirect reg addr
  | .moveToIndexed reg ix offset8 => Sys2Proof.Laws.Classified.moveToIndexed reg ix offset8
  | .moveToPostinc reg ix offset7 => Sys2Proof.Laws.Classified.moveToPostinc reg ix offset7
  | .moveToPredec reg ix field7 => Sys2Proof.Laws.Classified.moveToPredec reg ix field7
  | .moveToR3 reg ix => Sys2Proof.Laws.Classified.moveToR3 reg ix
  | .moveToDirectImm addr data => Sys2Proof.Laws.Classified.moveToDirectImm addr data
  | .mulDirect reg addr => Sys2Proof.Laws.Classified.mulDirect reg addr
  | .mulIndexed reg ix offset8 => Sys2Proof.Laws.Classified.mulIndexed reg ix offset8
  | .mulPostinc reg ix offset7 => Sys2Proof.Laws.Classified.mulPostinc reg ix offset7
  | .mulPredec reg ix field7 => Sys2Proof.Laws.Classified.mulPredec reg ix field7
  | .mulR3 reg ix => Sys2Proof.Laws.Classified.mulR3 reg ix
  | .mulImm reg data => Sys2Proof.Laws.Classified.mulImm reg data
  | .mulReg3 regi regj regk => Sys2Proof.Laws.Classified.mulReg3 regi regj regk
  | .mulaDirect reg addr => Sys2Proof.Laws.Classified.mulaDirect reg addr
  | .mulaIndexed reg ix offset8 => Sys2Proof.Laws.Classified.mulaIndexed reg ix offset8
  | .mulaPostinc reg ix offset7 => Sys2Proof.Laws.Classified.mulaPostinc reg ix offset7
  | .mulaPredec reg ix field7 => Sys2Proof.Laws.Classified.mulaPredec reg ix field7
  | .mulaR3 reg ix => Sys2Proof.Laws.Classified.mulaR3 reg ix
  | .mulaImm reg data => Sys2Proof.Laws.Classified.mulaImm reg data
  | .mulaReg3 regi regj regk => Sys2Proof.Laws.Classified.mulaReg3 regi regj regk
  | .orDirect reg addr => Sys2Proof.Laws.Classified.orDirect reg addr
  | .orIndexed reg ix offset8 => Sys2Proof.Laws.Classified.orIndexed reg ix offset8
  | .orPostinc reg ix offset7 => Sys2Proof.Laws.Classified.orPostinc reg ix offset7
  | .orPredec reg ix field7 => Sys2Proof.Laws.Classified.orPredec reg ix field7
  | .orR3 reg ix => Sys2Proof.Laws.Classified.orR3 reg ix
  | .orImm reg data => Sys2Proof.Laws.Classified.orImm reg data
  | .orReg3 regi regj regk => Sys2Proof.Laws.Classified.orReg3 regi regj regk
  | .shlDirect reg addr => Sys2Proof.Laws.Classified.shlDirect reg addr
  | .shlIndexed reg ix offset8 => Sys2Proof.Laws.Classified.shlIndexed reg ix offset8
  | .shlPostinc reg ix offset7 => Sys2Proof.Laws.Classified.shlPostinc reg ix offset7
  | .shlPredec reg ix field7 => Sys2Proof.Laws.Classified.shlPredec reg ix field7
  | .shlR3 reg ix => Sys2Proof.Laws.Classified.shlR3 reg ix
  | .shlReg2 regi regj => Sys2Proof.Laws.Classified.shlReg2 regi regj
  | .shlcDirect reg addr => Sys2Proof.Laws.Classified.shlcDirect reg addr
  | .shlcIndexed reg ix offset8 => Sys2Proof.Laws.Classified.shlcIndexed reg ix offset8
  | .shlcPostinc reg ix offset7 => Sys2Proof.Laws.Classified.shlcPostinc reg ix offset7
  | .shlcPredec reg ix field7 => Sys2Proof.Laws.Classified.shlcPredec reg ix field7
  | .shlcR3 reg ix => Sys2Proof.Laws.Classified.shlcR3 reg ix
  | .shlcReg2 regi regj => Sys2Proof.Laws.Classified.shlcReg2 regi regj
  | .shrDirect reg addr => Sys2Proof.Laws.Classified.shrDirect reg addr
  | .shrIndexed reg ix offset8 => Sys2Proof.Laws.Classified.shrIndexed reg ix offset8
  | .shrPostinc reg ix offset7 => Sys2Proof.Laws.Classified.shrPostinc reg ix offset7
  | .shrPredec reg ix field7 => Sys2Proof.Laws.Classified.shrPredec reg ix field7
  | .shrR3 reg ix => Sys2Proof.Laws.Classified.shrR3 reg ix
  | .shrReg2 regi regj => Sys2Proof.Laws.Classified.shrReg2 regi regj
  | .shraDirect reg addr => Sys2Proof.Laws.Classified.shraDirect reg addr
  | .shraIndexed reg ix offset8 => Sys2Proof.Laws.Classified.shraIndexed reg ix offset8
  | .shraPostinc reg ix offset7 => Sys2Proof.Laws.Classified.shraPostinc reg ix offset7
  | .shraPredec reg ix field7 => Sys2Proof.Laws.Classified.shraPredec reg ix field7
  | .shraR3 reg ix => Sys2Proof.Laws.Classified.shraR3 reg ix
  | .shraReg2 regi regj => Sys2Proof.Laws.Classified.shraReg2 regi regj
  | .shrcDirect reg addr => Sys2Proof.Laws.Classified.shrcDirect reg addr
  | .shrcIndexed reg ix offset8 => Sys2Proof.Laws.Classified.shrcIndexed reg ix offset8
  | .shrcPostinc reg ix offset7 => Sys2Proof.Laws.Classified.shrcPostinc reg ix offset7
  | .shrcPredec reg ix field7 => Sys2Proof.Laws.Classified.shrcPredec reg ix field7
  | .shrcR3 reg ix => Sys2Proof.Laws.Classified.shrcR3 reg ix
  | .shrcReg2 regi regj => Sys2Proof.Laws.Classified.shrcReg2 regi regj
  | .subdDirect reg addr => Sys2Proof.Laws.Classified.subdDirect reg addr
  | .subdIndexed reg ix offset8 => Sys2Proof.Laws.Classified.subdIndexed reg ix offset8
  | .subdPostinc reg ix offset7 => Sys2Proof.Laws.Classified.subdPostinc reg ix offset7
  | .subdPredec reg ix field7 => Sys2Proof.Laws.Classified.subdPredec reg ix field7
  | .subdR3 reg ix => Sys2Proof.Laws.Classified.subdR3 reg ix
  | .subdImm reg data => Sys2Proof.Laws.Classified.subdImm reg data
  | .subdReg3 regi regj regk => Sys2Proof.Laws.Classified.subdReg3 regi regj regk
  | .subdcDirect reg addr => Sys2Proof.Laws.Classified.subdcDirect reg addr
  | .subdcIndexed reg ix offset8 => Sys2Proof.Laws.Classified.subdcIndexed reg ix offset8
  | .subdcPostinc reg ix offset7 => Sys2Proof.Laws.Classified.subdcPostinc reg ix offset7
  | .subdcPredec reg ix field7 => Sys2Proof.Laws.Classified.subdcPredec reg ix field7
  | .subdcR3 reg ix => Sys2Proof.Laws.Classified.subdcR3 reg ix
  | .subdcImm reg data => Sys2Proof.Laws.Classified.subdcImm reg data
  | .subdcReg3 regi regj regk => Sys2Proof.Laws.Classified.subdcReg3 regi regj regk
  | .subsDirect reg addr => Sys2Proof.Laws.Classified.subsDirect reg addr
  | .subsIndexed reg ix offset8 => Sys2Proof.Laws.Classified.subsIndexed reg ix offset8
  | .subsPostinc reg ix offset7 => Sys2Proof.Laws.Classified.subsPostinc reg ix offset7
  | .subsPredec reg ix field7 => Sys2Proof.Laws.Classified.subsPredec reg ix field7
  | .subsR3 reg ix => Sys2Proof.Laws.Classified.subsR3 reg ix
  | .subsImm reg data => Sys2Proof.Laws.Classified.subsImm reg data
  | .subsReg3 regi regj regk => Sys2Proof.Laws.Classified.subsReg3 regi regj regk
  | .subscDirect reg addr => Sys2Proof.Laws.Classified.subscDirect reg addr
  | .subscIndexed reg ix offset8 => Sys2Proof.Laws.Classified.subscIndexed reg ix offset8
  | .subscPostinc reg ix offset7 => Sys2Proof.Laws.Classified.subscPostinc reg ix offset7
  | .subscPredec reg ix field7 => Sys2Proof.Laws.Classified.subscPredec reg ix field7
  | .subscR3 reg ix => Sys2Proof.Laws.Classified.subscR3 reg ix
  | .subscImm reg data => Sys2Proof.Laws.Classified.subscImm reg data
  | .subscReg3 regi regj regk => Sys2Proof.Laws.Classified.subscReg3 regi regj regk
  | .xorDirect reg addr => Sys2Proof.Laws.Classified.xorDirect reg addr
  | .xorIndexed reg ix offset8 => Sys2Proof.Laws.Classified.xorIndexed reg ix offset8
  | .xorPostinc reg ix offset7 => Sys2Proof.Laws.Classified.xorPostinc reg ix offset7
  | .xorPredec reg ix field7 => Sys2Proof.Laws.Classified.xorPredec reg ix field7
  | .xorR3 reg ix => Sys2Proof.Laws.Classified.xorR3 reg ix
  | .xorImm reg data => Sys2Proof.Laws.Classified.xorImm reg data
  | .xorReg3 regi regj regk => Sys2Proof.Laws.Classified.xorReg3 regi regj regk
  | .tstbImm reg data => Sys2Proof.Laws.Classified.tstbImm reg data
  | .jccAbs target => Sys2Proof.Laws.Classified.jccAbs target
  | .jccIp => Sys2Proof.Laws.Classified.jccIp
  | .jvcAbs target => Sys2Proof.Laws.Classified.jvcAbs target
  | .jvcIp => Sys2Proof.Laws.Classified.jvcIp
  | .jzcAbs target => Sys2Proof.Laws.Classified.jzcAbs target
  | .jzcIp => Sys2Proof.Laws.Classified.jzcIp
  | .jumpAbs target => Sys2Proof.Laws.Classified.jumpAbs target
  | .jumpIp => Sys2Proof.Laws.Classified.jumpIp
  | .jcsAbs target => Sys2Proof.Laws.Classified.jcsAbs target
  | .jcsIp => Sys2Proof.Laws.Classified.jcsIp
  | .jvsAbs target => Sys2Proof.Laws.Classified.jvsAbs target
  | .jvsIp => Sys2Proof.Laws.Classified.jvsIp
  | .jzsAbs target => Sys2Proof.Laws.Classified.jzsAbs target
  | .jzsIp => Sys2Proof.Laws.Classified.jzsIp
  | .jevAbs target => Sys2Proof.Laws.Classified.jevAbs target
  | .jevIp => Sys2Proof.Laws.Classified.jevIp
  | .callAbs target => Sys2Proof.Laws.Classified.callAbs target
  | .callIp => Sys2Proof.Laws.Classified.callIp
  | .callsAbs target => Sys2Proof.Laws.Classified.callsAbs target
  | .callsIp => Sys2Proof.Laws.Classified.callsIp
  | .ret => Sys2Proof.Laws.Classified.ret
  | .reti => Sys2Proof.Laws.Classified.reti
  | .pop => Sys2Proof.Laws.Classified.pop
  | .push => Sys2Proof.Laws.Classified.push
  | .nop => Sys2Proof.Laws.Classified.nop
  | .halt => Sys2Proof.Laws.Classified.halt
  | .sflag => Sys2Proof.Laws.Classified.sflag
  | .pmd on => Sys2Proof.Laws.Classified.pmd on
  | .freq divn => Sys2Proof.Laws.Classified.freq divn
end

