-- ==== Sys2Proof/Laws/Decode.lean ====
section
/-! SUPPORT. The code tables read back, and the bits of a word put together from fields: what proofs about the decoder and the
encoder cite. -/

namespace Sys2Proof

@[simp] theorem Reg.ofCode_code (r : Reg) : Reg.ofCode r.code = r := by cases r <;> rfl

@[simp] theorem Ix.ofCode_code (ix : Ix) : Ix.ofCode ix.code = ix := by cases ix <;> rfl

@[simp] theorem Cond.ofCode_code (c : Cond) : Cond.ofCode c.code = c := by cases c <;> rfl

theorem AluOp.ofCode_code {op : AluOp} (h : op ≠ .tstb) : AluOp.ofCode op.code = some op := by
  cases op <;> first
    | rfl
    | exact absurd rfl h

/-- An operation that has an immediate form is read back from the low four bits of its code. -/
theorem AluOp.ofImmediateCode_code {op : AluOp} {reg : Reg} {data : Byte}
    (h : Instr.ofAlu op (.imm reg data) ≠ none) : AluOp.ofImmediateCode (op.code.extractLsb' 0 4) = some op := by
  cases op <;> first
    | decide
    | exact absurd rfl h

/-- The bits of a field above the last one (rewrite with the bound proved by `decide`). -/
theorem extract_append_high {m n : Nat} (x : BitVec m) (y : BitVec n) {lo len : Nat} (h : n ≤ lo) :
    (x ++ y).extractLsb' lo len = x.extractLsb' (lo - n) len := by
  apply BitVec.eq_of_getLsbD_eq
  intro i hi
  simp only [BitVec.getLsbD_extractLsb', BitVec.getLsbD_append, hi, decide_true, Bool.true_and]
  rw [if_neg (by omega)]
  congr 1
  omega

/-- The bits of the last field. -/
theorem extract_append_low {m n : Nat} (x : BitVec m) (y : BitVec n) {lo len : Nat} (h : lo + len ≤ n) :
    (x ++ y).extractLsb' lo len = y.extractLsb' lo len := by
  apply BitVec.eq_of_getLsbD_eq
  intro i hi
  simp only [BitVec.getLsbD_extractLsb', BitVec.getLsbD_append, hi, decide_true, Bool.true_and]
  rw [if_pos (by omega)]

end Sys2Proof
end

