-- ==== Sys2Proof/Laws/State.lean ====
section
/-! SUPPORT. What each named update of the state leaves in each field: one lemma for each field, true by `rfl` (by cases for
an update that decides). -/

namespace Sys2Proof.Machine

/-! ### `setReg` -/

@[simp] theorem State.setReg_regs (s : State) (r : Reg) (v : Byte) :
    (s.setReg r v).regs = s.regs.set r v := rfl

@[simp] theorem State.setReg_pc (s : State) (r : Reg) (v : Byte) :
    (s.setReg r v).pc = s.pc := rfl

@[simp] theorem State.setReg_flags (s : State) (r : Reg) (v : Byte) :
    (s.setReg r v).flags = s.flags := rfl

@[simp] theorem State.setReg_levels (s : State) (r : Reg) (v : Byte) :
    (s.setReg r v).levels = s.levels := rfl

@[simp] theorem State.setReg_cnt (s : State) (r : Reg) (v : Byte) :
    (s.setReg r v).cnt = s.cnt := rfl

@[simp] theorem State.setReg_freqOut (s : State) (r : Reg) (v : Byte) :
    (s.setReg r v).freqOut = s.freqOut := rfl

@[simp] theorem State.setReg_halted (s : State) (r : Reg) (v : Byte) :
    (s.setReg r v).halted = s.halted := rfl

@[simp] theorem State.setReg_romMode (s : State) (r : Reg) (v : Byte) :
    (s.setReg r v).romMode = s.romMode := rfl

@[simp] theorem State.setReg_statCtl (s : State) (r : Reg) (v : Byte) :
    (s.setReg r v).statCtl = s.statCtl := rfl

@[simp] theorem State.setReg_mulShadow (s : State) (r : Reg) (v : Byte) :
    (s.setReg r v).mulShadow = s.mulShadow := rfl

@[simp] theorem State.setReg_dm (s : State) (r : Reg) (v : Byte) :
    (s.setReg r v).dm = s.dm := rfl

@[simp] theorem State.setReg_pm (s : State) (r : Reg) (v : Byte) :
    (s.setReg r v).pm = s.pm := rfl

@[simp] theorem State.setReg_testReg (s : State) (r : Reg) (v : Byte) :
    (s.setReg r v).testReg = s.testReg := rfl

@[simp] theorem State.setReg_testEn (s : State) (r : Reg) (v : Byte) :
    (s.setReg r v).testEn = s.testEn := rfl

@[simp] theorem State.setReg_platform (s : State) (r : Reg) (v : Byte) :
    (s.setReg r v).platform = s.platform := rfl

@[simp] theorem State.setReg_inputs (s : State) (r : Reg) (v : Byte) :
    (s.setReg r v).inputs = s.inputs := rfl

@[simp] theorem State.setReg_deviceLog (s : State) (r : Reg) (v : Byte) :
    (s.setReg r v).deviceLog = s.deviceLog := rfl

@[simp] theorem State.setReg_haltHeld (s : State) (r : Reg) (v : Byte) :
    (s.setReg r v).haltHeld = s.haltHeld := rfl

@[simp] theorem State.setReg_draws (s : State) (r : Reg) (v : Byte) :
    (s.setReg r v).draws = s.draws := rfl

/-! ### `setPair` -/

@[simp] theorem State.setPair_regs (s : State) (ix : Ix) (w : Word) :
    (s.setPair ix w).regs = s.regs.setPair ix w := rfl

@[simp] theorem State.setPair_pc (s : State) (ix : Ix) (w : Word) :
    (s.setPair ix w).pc = s.pc := rfl

@[simp] theorem State.setPair_flags (s : State) (ix : Ix) (w : Word) :
    (s.setPair ix w).flags = s.flags := rfl

@[simp] theorem State.setPair_levels (s : State) (ix : Ix) (w : Word) :
    (s.setPair ix w).levels = s.levels := rfl

@[simp] theorem State.setPair_cnt (s : State) (ix : Ix) (w : Word) :
    (s.setPair ix w).cnt = s.cnt := rfl

@[simp] theorem State.setPair_freqOut (s : State) (ix : Ix) (w : Word) :
    (s.setPair ix w).freqOut = s.freqOut := rfl

@[simp] theorem State.setPair_halted (s : State) (ix : Ix) (w : Word) :
    (s.setPair ix w).halted = s.halted := rfl

@[simp] theorem State.setPair_romMode (s : State) (ix : Ix) (w : Word) :
    (s.setPair ix w).romMode = s.romMode := rfl

@[simp] theorem State.setPair_statCtl (s : State) (ix : Ix) (w : Word) :
    (s.setPair ix w).statCtl = s.statCtl := rfl

@[simp] theorem State.setPair_mulShadow (s : State) (ix : Ix) (w : Word) :
    (s.setPair ix w).mulShadow = s.mulShadow := rfl

@[simp] theorem State.setPair_dm (s : State) (ix : Ix) (w : Word) :
    (s.setPair ix w).dm = s.dm := rfl

@[simp] theorem State.setPair_pm (s : State) (ix : Ix) (w : Word) :
    (s.setPair ix w).pm = s.pm := rfl

@[simp] theorem State.setPair_testReg (s : State) (ix : Ix) (w : Word) :
    (s.setPair ix w).testReg = s.testReg := rfl

@[simp] theorem State.setPair_testEn (s : State) (ix : Ix) (w : Word) :
    (s.setPair ix w).testEn = s.testEn := rfl

@[simp] theorem State.setPair_platform (s : State) (ix : Ix) (w : Word) :
    (s.setPair ix w).platform = s.platform := rfl

@[simp] theorem State.setPair_inputs (s : State) (ix : Ix) (w : Word) :
    (s.setPair ix w).inputs = s.inputs := rfl

@[simp] theorem State.setPair_deviceLog (s : State) (ix : Ix) (w : Word) :
    (s.setPair ix w).deviceLog = s.deviceLog := rfl

@[simp] theorem State.setPair_haltHeld (s : State) (ix : Ix) (w : Word) :
    (s.setPair ix w).haltHeld = s.haltHeld := rfl

@[simp] theorem State.setPair_draws (s : State) (ix : Ix) (w : Word) :
    (s.setPair ix w).draws = s.draws := rfl

/-! ### `setIp` -/

@[simp] theorem State.setIp_regs (s : State) (w : Word) :
    (s.setIp w).regs = s.regs.setIp w := rfl

@[simp] theorem State.setIp_pc (s : State) (w : Word) :
    (s.setIp w).pc = s.pc := rfl

@[simp] theorem State.setIp_flags (s : State) (w : Word) :
    (s.setIp w).flags = s.flags := rfl

@[simp] theorem State.setIp_levels (s : State) (w : Word) :
    (s.setIp w).levels = s.levels := rfl

@[simp] theorem State.setIp_cnt (s : State) (w : Word) :
    (s.setIp w).cnt = s.cnt := rfl

@[simp] theorem State.setIp_freqOut (s : State) (w : Word) :
    (s.setIp w).freqOut = s.freqOut := rfl

@[simp] theorem State.setIp_halted (s : State) (w : Word) :
    (s.setIp w).halted = s.halted := rfl

@[simp] theorem State.setIp_romMode (s : State) (w : Word) :
    (s.setIp w).romMode = s.romMode := rfl

@[simp] theorem State.setIp_statCtl (s : State) (w : Word) :
    (s.setIp w).statCtl = s.statCtl := rfl

@[simp] theorem State.setIp_mulShadow (s : State) (w : Word) :
    (s.setIp w).mulShadow = s.mulShadow := rfl

@[simp] theorem State.setIp_dm (s : State) (w : Word) :
    (s.setIp w).dm = s.dm := rfl

@[simp] theorem State.setIp_pm (s : State) (w : Word) :
    (s.setIp w).pm = s.pm := rfl

@[simp] theorem State.setIp_testReg (s : State) (w : Word) :
    (s.setIp w).testReg = s.testReg := rfl

@[simp] theorem State.setIp_testEn (s : State) (w : Word) :
    (s.setIp w).testEn = s.testEn := rfl

@[simp] theorem State.setIp_platform (s : State) (w : Word) :
    (s.setIp w).platform = s.platform := rfl

@[simp] theorem State.setIp_inputs (s : State) (w : Word) :
    (s.setIp w).inputs = s.inputs := rfl

@[simp] theorem State.setIp_deviceLog (s : State) (w : Word) :
    (s.setIp w).deviceLog = s.deviceLog := rfl

@[simp] theorem State.setIp_haltHeld (s : State) (w : Word) :
    (s.setIp w).haltHeld = s.haltHeld := rfl

@[simp] theorem State.setIp_draws (s : State) (w : Word) :
    (s.setIp w).draws = s.draws := rfl

/-! ### `setByte` -/

@[simp] theorem State.setByte_regs (s : State) (a : Word) (v : Byte) :
    (s.setByte a v).regs = s.regs := rfl

@[simp] theorem State.setByte_pc (s : State) (a : Word) (v : Byte) :
    (s.setByte a v).pc = s.pc := rfl

@[simp] theorem State.setByte_flags (s : State) (a : Word) (v : Byte) :
    (s.setByte a v).flags = s.flags := rfl

@[simp] theorem State.setByte_levels (s : State) (a : Word) (v : Byte) :
    (s.setByte a v).levels = s.levels := rfl

@[simp] theorem State.setByte_cnt (s : State) (a : Word) (v : Byte) :
    (s.setByte a v).cnt = s.cnt := rfl

@[simp] theorem State.setByte_freqOut (s : State) (a : Word) (v : Byte) :
    (s.setByte a v).freqOut = s.freqOut := rfl

@[simp] theorem State.setByte_halted (s : State) (a : Word) (v : Byte) :
    (s.setByte a v).halted = s.halted := rfl

@[simp] theorem State.setByte_romMode (s : State) (a : Word) (v : Byte) :
    (s.setByte a v).romMode = s.romMode := rfl

@[simp] theorem State.setByte_statCtl (s : State) (a : Word) (v : Byte) :
    (s.setByte a v).statCtl = s.statCtl := rfl

@[simp] theorem State.setByte_mulShadow (s : State) (a : Word) (v : Byte) :
    (s.setByte a v).mulShadow = s.mulShadow := rfl

@[simp] theorem State.setByte_dm (s : State) (a : Word) (v : Byte) :
    (s.setByte a v).dm = Memory.insert s.dm a.toNat v := rfl

@[simp] theorem State.setByte_pm (s : State) (a : Word) (v : Byte) :
    (s.setByte a v).pm = s.pm := rfl

@[simp] theorem State.setByte_testReg (s : State) (a : Word) (v : Byte) :
    (s.setByte a v).testReg = s.testReg := rfl

@[simp] theorem State.setByte_testEn (s : State) (a : Word) (v : Byte) :
    (s.setByte a v).testEn = s.testEn := rfl

@[simp] theorem State.setByte_platform (s : State) (a : Word) (v : Byte) :
    (s.setByte a v).platform = s.platform := rfl

@[simp] theorem State.setByte_inputs (s : State) (a : Word) (v : Byte) :
    (s.setByte a v).inputs = s.inputs := rfl

@[simp] theorem State.setByte_deviceLog (s : State) (a : Word) (v : Byte) :
    (s.setByte a v).deviceLog = s.deviceLog := rfl

@[simp] theorem State.setByte_haltHeld (s : State) (a : Word) (v : Byte) :
    (s.setByte a v).haltHeld = s.haltHeld := rfl

@[simp] theorem State.setByte_draws (s : State) (a : Word) (v : Byte) :
    (s.setByte a v).draws = s.draws := rfl

/-! ### `pushed` -/

@[simp] theorem State.pushed_regs (s : State) (v : Word) :
    (s.pushed v).regs = s.regs := rfl

@[simp] theorem State.pushed_pc (s : State) (v : Word) :
    (s.pushed v).pc = s.pc := rfl

@[simp] theorem State.pushed_flags (s : State) (v : Word) :
    (s.pushed v).flags = s.flags := rfl

@[simp] theorem State.pushed_levels (s : State) (v : Word) :
    (s.pushed v).levels = (v :: s.levels).take s.platform.stackDepth := rfl

@[simp] theorem State.pushed_cnt (s : State) (v : Word) :
    (s.pushed v).cnt = s.cnt + 1 := rfl

@[simp] theorem State.pushed_freqOut (s : State) (v : Word) :
    (s.pushed v).freqOut = s.freqOut := rfl

@[simp] theorem State.pushed_halted (s : State) (v : Word) :
    (s.pushed v).halted = s.halted := rfl

@[simp] theorem State.pushed_romMode (s : State) (v : Word) :
    (s.pushed v).romMode = s.romMode := rfl

@[simp] theorem State.pushed_statCtl (s : State) (v : Word) :
    (s.pushed v).statCtl = s.statCtl := rfl

@[simp] theorem State.pushed_mulShadow (s : State) (v : Word) :
    (s.pushed v).mulShadow = s.mulShadow := rfl

@[simp] theorem State.pushed_dm (s : State) (v : Word) :
    (s.pushed v).dm = s.dm := rfl

@[simp] theorem State.pushed_pm (s : State) (v : Word) :
    (s.pushed v).pm = s.pm := rfl

@[simp] theorem State.pushed_testReg (s : State) (v : Word) :
    (s.pushed v).testReg = s.testReg := rfl

@[simp] theorem State.pushed_testEn (s : State) (v : Word) :
    (s.pushed v).testEn = s.testEn := rfl

@[simp] theorem State.pushed_platform (s : State) (v : Word) :
    (s.pushed v).platform = s.platform := rfl

@[simp] theorem State.pushed_inputs (s : State) (v : Word) :
    (s.pushed v).inputs = s.inputs := rfl

@[simp] theorem State.pushed_deviceLog (s : State) (v : Word) :
    (s.pushed v).deviceLog = s.deviceLog := rfl

@[simp] theorem State.pushed_haltHeld (s : State) (v : Word) :
    (s.pushed v).haltHeld = s.haltHeld := rfl

@[simp] theorem State.pushed_draws (s : State) (v : Word) :
    (s.pushed v).draws = s.draws := rfl

/-! ### `samplePins` -/

@[simp] theorem State.samplePins_regs (s : State) (p : Pins) :
    (s.samplePins p).regs = s.regs.set .stat (s.regs.stat ||| p.mask) := rfl

@[simp] theorem State.samplePins_pc (s : State) (p : Pins) :
    (s.samplePins p).pc = s.pc := rfl

@[simp] theorem State.samplePins_flags (s : State) (p : Pins) :
    (s.samplePins p).flags = s.flags := rfl

@[simp] theorem State.samplePins_levels (s : State) (p : Pins) :
    (s.samplePins p).levels = s.levels := rfl

@[simp] theorem State.samplePins_cnt (s : State) (p : Pins) :
    (s.samplePins p).cnt = s.cnt := rfl

@[simp] theorem State.samplePins_freqOut (s : State) (p : Pins) :
    (s.samplePins p).freqOut = s.freqOut := rfl

@[simp] theorem State.samplePins_halted (s : State) (p : Pins) :
    (s.samplePins p).halted = s.halted := rfl

@[simp] theorem State.samplePins_romMode (s : State) (p : Pins) :
    (s.samplePins p).romMode = s.romMode := rfl

@[simp] theorem State.samplePins_statCtl (s : State) (p : Pins) :
    (s.samplePins p).statCtl = s.statCtl ||| p.mask := rfl

@[simp] theorem State.samplePins_mulShadow (s : State) (p : Pins) :
    (s.samplePins p).mulShadow = s.mulShadow := rfl

@[simp] theorem State.samplePins_dm (s : State) (p : Pins) :
    (s.samplePins p).dm = s.dm := rfl

@[simp] theorem State.samplePins_pm (s : State) (p : Pins) :
    (s.samplePins p).pm = s.pm := rfl

@[simp] theorem State.samplePins_testReg (s : State) (p : Pins) :
    (s.samplePins p).testReg = s.testReg := rfl

@[simp] theorem State.samplePins_testEn (s : State) (p : Pins) :
    (s.samplePins p).testEn = s.testEn := rfl

@[simp] theorem State.samplePins_platform (s : State) (p : Pins) :
    (s.samplePins p).platform = s.platform := rfl

@[simp] theorem State.samplePins_inputs (s : State) (p : Pins) :
    (s.samplePins p).inputs = s.inputs := rfl

@[simp] theorem State.samplePins_deviceLog (s : State) (p : Pins) :
    (s.samplePins p).deviceLog = s.deviceLog := rfl

@[simp] theorem State.samplePins_haltHeld (s : State) (p : Pins) :
    (s.samplePins p).haltHeld = (s.haltHeld && !p.any) := rfl

@[simp] theorem State.samplePins_draws (s : State) (p : Pins) :
    (s.samplePins p).draws = s.draws := rfl

/-! ### `interruptEntry` -/

@[simp] theorem State.interruptEntry_regs (s : State) (k : Level) :
    (s.interruptEntry k).regs = s.regs.set .stat (clearGie s.regs.stat) := rfl

@[simp] theorem State.interruptEntry_pc (s : State) (k : Level) :
    (s.interruptEntry k).pc = k.vector := rfl

@[simp] theorem State.interruptEntry_flags (s : State) (k : Level) :
    (s.interruptEntry k).flags = s.flags := rfl

@[simp] theorem State.interruptEntry_levels (s : State) (k : Level) :
    (s.interruptEntry k).levels = (s.pc :: s.levels).take s.platform.stackDepth := rfl

@[simp] theorem State.interruptEntry_cnt (s : State) (k : Level) :
    (s.interruptEntry k).cnt = s.cnt + 1 := rfl

@[simp] theorem State.interruptEntry_freqOut (s : State) (k : Level) :
    (s.interruptEntry k).freqOut = s.freqOut := rfl

@[simp] theorem State.interruptEntry_halted (s : State) (k : Level) :
    (s.interruptEntry k).halted = false := rfl

@[simp] theorem State.interruptEntry_romMode (s : State) (k : Level) :
    (s.interruptEntry k).romMode = s.romMode := rfl

@[simp] theorem State.interruptEntry_statCtl (s : State) (k : Level) :
    (s.interruptEntry k).statCtl = clearGie s.regs.stat := rfl

@[simp] theorem State.interruptEntry_mulShadow (s : State) (k : Level) :
    (s.interruptEntry k).mulShadow = none := rfl

@[simp] theorem State.interruptEntry_dm (s : State) (k : Level) :
    (s.interruptEntry k).dm = s.dm := rfl

@[simp] theorem State.interruptEntry_pm (s : State) (k : Level) :
    (s.interruptEntry k).pm = s.pm := rfl

@[simp] theorem State.interruptEntry_testReg (s : State) (k : Level) :
    (s.interruptEntry k).testReg = s.testReg := rfl

@[simp] theorem State.interruptEntry_testEn (s : State) (k : Level) :
    (s.interruptEntry k).testEn = s.testEn := rfl

@[simp] theorem State.interruptEntry_platform (s : State) (k : Level) :
    (s.interruptEntry k).platform = s.platform := rfl

@[simp] theorem State.interruptEntry_inputs (s : State) (k : Level) :
    (s.interruptEntry k).inputs = s.inputs := rfl

@[simp] theorem State.interruptEntry_deviceLog (s : State) (k : Level) :
    (s.interruptEntry k).deviceLog = s.deviceLog := rfl

@[simp] theorem State.interruptEntry_haltHeld (s : State) (k : Level) :
    (s.interruptEntry k).haltHeld = false := rfl

@[simp] theorem State.interruptEntry_draws (s : State) (k : Level) :
    (s.interruptEntry k).draws = s.draws := rfl

/-! ### `loadAtPc` -/

@[simp] theorem State.loadAtPc_regs (s : State) (w : IWord) :
    (s.loadAtPc w).regs = s.regs := rfl

@[simp] theorem State.loadAtPc_pc (s : State) (w : IWord) :
    (s.loadAtPc w).pc = s.pc := rfl

@[simp] theorem State.loadAtPc_flags (s : State) (w : IWord) :
    (s.loadAtPc w).flags = s.flags := rfl

@[simp] theorem State.loadAtPc_levels (s : State) (w : IWord) :
    (s.loadAtPc w).levels = s.levels := rfl

@[simp] theorem State.loadAtPc_cnt (s : State) (w : IWord) :
    (s.loadAtPc w).cnt = s.cnt := rfl

@[simp] theorem State.loadAtPc_freqOut (s : State) (w : IWord) :
    (s.loadAtPc w).freqOut = s.freqOut := rfl

@[simp] theorem State.loadAtPc_halted (s : State) (w : IWord) :
    (s.loadAtPc w).halted = s.halted := rfl

@[simp] theorem State.loadAtPc_romMode (s : State) (w : IWord) :
    (s.loadAtPc w).romMode = s.romMode := rfl

@[simp] theorem State.loadAtPc_statCtl (s : State) (w : IWord) :
    (s.loadAtPc w).statCtl = s.statCtl := rfl

@[simp] theorem State.loadAtPc_mulShadow (s : State) (w : IWord) :
    (s.loadAtPc w).mulShadow = s.mulShadow := rfl

@[simp] theorem State.loadAtPc_dm (s : State) (w : IWord) :
    (s.loadAtPc w).dm = s.dm := rfl

@[simp] theorem State.loadAtPc_pm (s : State) (w : IWord) :
    (s.loadAtPc w).pm = Memory.insert s.pm s.pc.toNat w := rfl

@[simp] theorem State.loadAtPc_testReg (s : State) (w : IWord) :
    (s.loadAtPc w).testReg = s.testReg := rfl

@[simp] theorem State.loadAtPc_testEn (s : State) (w : IWord) :
    (s.loadAtPc w).testEn = s.testEn := rfl

@[simp] theorem State.loadAtPc_platform (s : State) (w : IWord) :
    (s.loadAtPc w).platform = s.platform := rfl

@[simp] theorem State.loadAtPc_inputs (s : State) (w : IWord) :
    (s.loadAtPc w).inputs = s.inputs := rfl

@[simp] theorem State.loadAtPc_deviceLog (s : State) (w : IWord) :
    (s.loadAtPc w).deviceLog = s.deviceLog := rfl

@[simp] theorem State.loadAtPc_haltHeld (s : State) (w : IWord) :
    (s.loadAtPc w).haltHeld = s.haltHeld := rfl

@[simp] theorem State.loadAtPc_draws (s : State) (w : IWord) :
    (s.loadAtPc w).draws = s.draws := rfl

/-! ### `stayHalted` -/

@[simp] theorem State.stayHalted_regs (s : State) :
    (s.stayHalted).regs = s.regs := rfl

@[simp] theorem State.stayHalted_pc (s : State) :
    (s.stayHalted).pc = s.pc := rfl

@[simp] theorem State.stayHalted_flags (s : State) :
    (s.stayHalted).flags = s.flags := rfl

@[simp] theorem State.stayHalted_levels (s : State) :
    (s.stayHalted).levels = s.levels := rfl

@[simp] theorem State.stayHalted_cnt (s : State) :
    (s.stayHalted).cnt = s.cnt := rfl

@[simp] theorem State.stayHalted_freqOut (s : State) :
    (s.stayHalted).freqOut = s.freqOut := rfl

@[simp] theorem State.stayHalted_halted (s : State) :
    (s.stayHalted).halted = s.halted := rfl

@[simp] theorem State.stayHalted_romMode (s : State) :
    (s.stayHalted).romMode = s.romMode := rfl

@[simp] theorem State.stayHalted_statCtl (s : State) :
    (s.stayHalted).statCtl = s.regs.stat := rfl

@[simp] theorem State.stayHalted_mulShadow (s : State) :
    (s.stayHalted).mulShadow = s.mulShadow := rfl

@[simp] theorem State.stayHalted_dm (s : State) :
    (s.stayHalted).dm = s.dm := rfl

@[simp] theorem State.stayHalted_pm (s : State) :
    (s.stayHalted).pm = s.pm := rfl

@[simp] theorem State.stayHalted_testReg (s : State) :
    (s.stayHalted).testReg = s.testReg := rfl

@[simp] theorem State.stayHalted_testEn (s : State) :
    (s.stayHalted).testEn = s.testEn := rfl

@[simp] theorem State.stayHalted_platform (s : State) :
    (s.stayHalted).platform = s.platform := rfl

@[simp] theorem State.stayHalted_inputs (s : State) :
    (s.stayHalted).inputs = s.inputs := rfl

@[simp] theorem State.stayHalted_deviceLog (s : State) :
    (s.stayHalted).deviceLog = s.deviceLog := rfl

@[simp] theorem State.stayHalted_haltHeld (s : State) :
    (s.stayHalted).haltHeld = s.haltHeld := rfl

@[simp] theorem State.stayHalted_draws (s : State) :
    (s.stayHalted).draws = s.draws := rfl

/-! ### `shiftTest` -/

@[simp] theorem State.shiftTest_regs (s : State) (b : Bool) :
    (s.shiftTest b).regs = s.regs := rfl

@[simp] theorem State.shiftTest_pc (s : State) (b : Bool) :
    (s.shiftTest b).pc = s.pc := rfl

@[simp] theorem State.shiftTest_flags (s : State) (b : Bool) :
    (s.shiftTest b).flags = s.flags := rfl

@[simp] theorem State.shiftTest_levels (s : State) (b : Bool) :
    (s.shiftTest b).levels = s.levels := rfl

@[simp] theorem State.shiftTest_cnt (s : State) (b : Bool) :
    (s.shiftTest b).cnt = s.cnt := rfl

@[simp] theorem State.shiftTest_freqOut (s : State) (b : Bool) :
    (s.shiftTest b).freqOut = s.freqOut := rfl

@[simp] theorem State.shiftTest_halted (s : State) (b : Bool) :
    (s.shiftTest b).halted = s.halted := rfl

@[simp] theorem State.shiftTest_romMode (s : State) (b : Bool) :
    (s.shiftTest b).romMode = s.romMode := rfl

@[simp] theorem State.shiftTest_statCtl (s : State) (b : Bool) :
    (s.shiftTest b).statCtl = s.statCtl := rfl

@[simp] theorem State.shiftTest_mulShadow (s : State) (b : Bool) :
    (s.shiftTest b).mulShadow = s.mulShadow := rfl

@[simp] theorem State.shiftTest_dm (s : State) (b : Bool) :
    (s.shiftTest b).dm = s.dm := rfl

@[simp] theorem State.shiftTest_pm (s : State) (b : Bool) :
    (s.shiftTest b).pm = s.pm := rfl

@[simp] theorem State.shiftTest_testReg (s : State) (b : Bool) :
    (s.shiftTest b).testReg = BitVec.ofBool b ++ s.testReg.extractLsb' 1 21 := rfl

@[simp] theorem State.shiftTest_testEn (s : State) (b : Bool) :
    (s.shiftTest b).testEn = s.testEn := rfl

@[simp] theorem State.shiftTest_platform (s : State) (b : Bool) :
    (s.shiftTest b).platform = s.platform := rfl

@[simp] theorem State.shiftTest_inputs (s : State) (b : Bool) :
    (s.shiftTest b).inputs = s.inputs := rfl

@[simp] theorem State.shiftTest_deviceLog (s : State) (b : Bool) :
    (s.shiftTest b).deviceLog = s.deviceLog := rfl

@[simp] theorem State.shiftTest_haltHeld (s : State) (b : Bool) :
    (s.shiftTest b).haltHeld = s.haltHeld := rfl

@[simp] theorem State.shiftTest_draws (s : State) (b : Bool) :
    (s.shiftTest b).draws = s.draws := rfl

/-! ### `finish` -/

@[simp] theorem State.finish_regs (s t : State) (p : Word) (d : Option Reg) :
    (s.finish t p d).regs = t.regs := rfl

@[simp] theorem State.finish_pc (s t : State) (p : Word) (d : Option Reg) :
    (s.finish t p d).pc = p := rfl

@[simp] theorem State.finish_flags (s t : State) (p : Word) (d : Option Reg) :
    (s.finish t p d).flags = t.flags := rfl

@[simp] theorem State.finish_levels (s t : State) (p : Word) (d : Option Reg) :
    (s.finish t p d).levels = t.levels := rfl

@[simp] theorem State.finish_cnt (s t : State) (p : Word) (d : Option Reg) :
    (s.finish t p d).cnt = t.cnt := rfl

@[simp] theorem State.finish_freqOut (s t : State) (p : Word) (d : Option Reg) :
    (s.finish t p d).freqOut = t.freqOut := rfl

@[simp] theorem State.finish_halted (s t : State) (p : Word) (d : Option Reg) :
    (s.finish t p d).halted = t.halted := rfl

@[simp] theorem State.finish_romMode (s t : State) (p : Word) (d : Option Reg) :
    (s.finish t p d).romMode = t.romMode := rfl

@[simp] theorem State.finish_statCtl (s t : State) (p : Word) (d : Option Reg) :
    (s.finish t p d).statCtl = s.regs.stat := rfl

@[simp] theorem State.finish_mulShadow (s t : State) (p : Word) (d : Option Reg) :
    (s.finish t p d).mulShadow = d := rfl

@[simp] theorem State.finish_dm (s t : State) (p : Word) (d : Option Reg) :
    (s.finish t p d).dm = t.dm := rfl

@[simp] theorem State.finish_pm (s t : State) (p : Word) (d : Option Reg) :
    (s.finish t p d).pm = t.pm := rfl

@[simp] theorem State.finish_testReg (s t : State) (p : Word) (d : Option Reg) :
    (s.finish t p d).testReg = t.testReg := rfl

@[simp] theorem State.finish_testEn (s t : State) (p : Word) (d : Option Reg) :
    (s.finish t p d).testEn = t.testEn := rfl

@[simp] theorem State.finish_platform (s t : State) (p : Word) (d : Option Reg) :
    (s.finish t p d).platform = t.platform := rfl

@[simp] theorem State.finish_inputs (s t : State) (p : Word) (d : Option Reg) :
    (s.finish t p d).inputs = t.inputs := rfl

@[simp] theorem State.finish_deviceLog (s t : State) (p : Word) (d : Option Reg) :
    (s.finish t p d).deviceLog = t.deviceLog := rfl

@[simp] theorem State.finish_haltHeld (s t : State) (p : Word) (d : Option Reg) :
    (s.finish t p d).haltHeld = t.haltHeld := rfl

@[simp] theorem State.finish_draws (s t : State) (p : Word) (d : Option Reg) :
    (s.finish t p d).draws = t.draws := rfl

/-! ### `resetEvent` -/

@[simp] theorem State.resetEvent_regs (s : State) : s.resetEvent.regs = State.reset.regs := rfl

@[simp] theorem State.resetEvent_pc (s : State) : s.resetEvent.pc = State.reset.pc := rfl

@[simp] theorem State.resetEvent_flags (s : State) : s.resetEvent.flags = State.reset.flags := rfl

@[simp] theorem State.resetEvent_levels (s : State) : s.resetEvent.levels = List.replicate s.platform.stackDepth 0 := rfl

@[simp] theorem State.resetEvent_cnt (s : State) : s.resetEvent.cnt = State.reset.cnt := rfl

@[simp] theorem State.resetEvent_freqOut (s : State) : s.resetEvent.freqOut = State.reset.freqOut := rfl

@[simp] theorem State.resetEvent_halted (s : State) : s.resetEvent.halted = State.reset.halted := rfl

@[simp] theorem State.resetEvent_romMode (s : State) : s.resetEvent.romMode = State.reset.romMode := rfl

@[simp] theorem State.resetEvent_statCtl (s : State) : s.resetEvent.statCtl = State.reset.statCtl := rfl

@[simp] theorem State.resetEvent_mulShadow (s : State) : s.resetEvent.mulShadow = State.reset.mulShadow := rfl

@[simp] theorem State.resetEvent_dm (s : State) : s.resetEvent.dm = s.dm := rfl

@[simp] theorem State.resetEvent_pm (s : State) : s.resetEvent.pm = s.pm := rfl

@[simp] theorem State.resetEvent_testReg (s : State) : s.resetEvent.testReg = State.reset.testReg := rfl

@[simp] theorem State.resetEvent_testEn (s : State) : s.resetEvent.testEn = State.reset.testEn := rfl

@[simp] theorem State.resetEvent_platform (s : State) : s.resetEvent.platform = s.platform := rfl

@[simp] theorem State.resetEvent_inputs (s : State) : s.resetEvent.inputs = s.inputs := rfl

@[simp] theorem State.resetEvent_deviceLog (s : State) : s.resetEvent.deviceLog = s.deviceLog := rfl

@[simp] theorem State.resetEvent_haltHeld (s : State) : s.resetEvent.haltHeld = State.reset.haltHeld := rfl

@[simp] theorem State.resetEvent_draws (s : State) : s.resetEvent.draws = s.draws := rfl

/-! ### `writeData`: the fields it never changes -/

@[simp] theorem State.writeData_regs (s : State) (a : Word) (v : Byte) :
    (s.writeData a v).regs = s.regs := by
  unfold State.writeData; split <;> rfl

@[simp] theorem State.writeData_pc (s : State) (a : Word) (v : Byte) :
    (s.writeData a v).pc = s.pc := by
  unfold State.writeData; split <;> rfl

@[simp] theorem State.writeData_flags (s : State) (a : Word) (v : Byte) :
    (s.writeData a v).flags = s.flags := by
  unfold State.writeData; split <;> rfl

@[simp] theorem State.writeData_levels (s : State) (a : Word) (v : Byte) :
    (s.writeData a v).levels = s.levels := by
  unfold State.writeData; split <;> rfl

@[simp] theorem State.writeData_cnt (s : State) (a : Word) (v : Byte) :
    (s.writeData a v).cnt = s.cnt := by
  unfold State.writeData; split <;> rfl

@[simp] theorem State.writeData_freqOut (s : State) (a : Word) (v : Byte) :
    (s.writeData a v).freqOut = s.freqOut := by
  unfold State.writeData; split <;> rfl

@[simp] theorem State.writeData_halted (s : State) (a : Word) (v : Byte) :
    (s.writeData a v).halted = s.halted := by
  unfold State.writeData; split <;> rfl

@[simp] theorem State.writeData_romMode (s : State) (a : Word) (v : Byte) :
    (s.writeData a v).romMode = s.romMode := by
  unfold State.writeData; split <;> rfl

@[simp] theorem State.writeData_statCtl (s : State) (a : Word) (v : Byte) :
    (s.writeData a v).statCtl = s.statCtl := by
  unfold State.writeData; split <;> rfl

@[simp] theorem State.writeData_mulShadow (s : State) (a : Word) (v : Byte) :
    (s.writeData a v).mulShadow = s.mulShadow := by
  unfold State.writeData; split <;> rfl

@[simp] theorem State.writeData_pm (s : State) (a : Word) (v : Byte) :
    (s.writeData a v).pm = s.pm := by
  unfold State.writeData; split <;> rfl

@[simp] theorem State.writeData_testReg (s : State) (a : Word) (v : Byte) :
    (s.writeData a v).testReg = s.testReg := by
  unfold State.writeData; split <;> rfl

@[simp] theorem State.writeData_testEn (s : State) (a : Word) (v : Byte) :
    (s.writeData a v).testEn = s.testEn := by
  unfold State.writeData; split <;> rfl

@[simp] theorem State.writeData_platform (s : State) (a : Word) (v : Byte) :
    (s.writeData a v).platform = s.platform := by
  unfold State.writeData; split <;> rfl

@[simp] theorem State.writeData_inputs (s : State) (a : Word) (v : Byte) :
    (s.writeData a v).inputs = s.inputs := by
  unfold State.writeData; split <;> rfl

@[simp] theorem State.writeData_haltHeld (s : State) (a : Word) (v : Byte) :
    (s.writeData a v).haltHeld = s.haltHeld := by
  unfold State.writeData; split <;> rfl

/-! ### `busWrite`: the fields it never changes -/

@[simp] theorem State.busWrite_regs (s : State) (w : Word × Byte) :
    (s.busWrite w).regs = s.regs := by
  unfold State.busWrite; split <;> rfl

@[simp] theorem State.busWrite_pc (s : State) (w : Word × Byte) :
    (s.busWrite w).pc = s.pc := by
  unfold State.busWrite; split <;> rfl

@[simp] theorem State.busWrite_flags (s : State) (w : Word × Byte) :
    (s.busWrite w).flags = s.flags := by
  unfold State.busWrite; split <;> rfl

@[simp] theorem State.busWrite_levels (s : State) (w : Word × Byte) :
    (s.busWrite w).levels = s.levels := by
  unfold State.busWrite; split <;> rfl

@[simp] theorem State.busWrite_cnt (s : State) (w : Word × Byte) :
    (s.busWrite w).cnt = s.cnt := by
  unfold State.busWrite; split <;> rfl

@[simp] theorem State.busWrite_freqOut (s : State) (w : Word × Byte) :
    (s.busWrite w).freqOut = s.freqOut := by
  unfold State.busWrite; split <;> rfl

@[simp] theorem State.busWrite_halted (s : State) (w : Word × Byte) :
    (s.busWrite w).halted = s.halted := by
  unfold State.busWrite; split <;> rfl

@[simp] theorem State.busWrite_romMode (s : State) (w : Word × Byte) :
    (s.busWrite w).romMode = s.romMode := by
  unfold State.busWrite; split <;> rfl

@[simp] theorem State.busWrite_statCtl (s : State) (w : Word × Byte) :
    (s.busWrite w).statCtl = s.statCtl := by
  unfold State.busWrite; split <;> rfl

@[simp] theorem State.busWrite_mulShadow (s : State) (w : Word × Byte) :
    (s.busWrite w).mulShadow = s.mulShadow := by
  unfold State.busWrite; split <;> rfl

@[simp] theorem State.busWrite_pm (s : State) (w : Word × Byte) :
    (s.busWrite w).pm = s.pm := by
  unfold State.busWrite; split <;> rfl

@[simp] theorem State.busWrite_testReg (s : State) (w : Word × Byte) :
    (s.busWrite w).testReg = s.testReg := by
  unfold State.busWrite; split <;> rfl

@[simp] theorem State.busWrite_testEn (s : State) (w : Word × Byte) :
    (s.busWrite w).testEn = s.testEn := by
  unfold State.busWrite; split <;> rfl

@[simp] theorem State.busWrite_platform (s : State) (w : Word × Byte) :
    (s.busWrite w).platform = s.platform := by
  unfold State.busWrite; split <;> rfl

@[simp] theorem State.busWrite_inputs (s : State) (w : Word × Byte) :
    (s.busWrite w).inputs = s.inputs := by
  unfold State.busWrite; split <;> rfl

@[simp] theorem State.busWrite_deviceLog (s : State) (w : Word × Byte) :
    (s.busWrite w).deviceLog = s.deviceLog := by
  unfold State.busWrite; split <;> rfl

@[simp] theorem State.busWrite_haltHeld (s : State) (w : Word × Byte) :
    (s.busWrite w).haltHeld = s.haltHeld := by
  unfold State.busWrite; split <;> rfl

@[simp] theorem State.busWrite_draws (s : State) (w : Word × Byte) :
    (s.busWrite w).draws = s.draws := by
  unfold State.busWrite; split <;> rfl

/-! ### `latchTest`: the fields it never changes -/

@[simp] theorem State.latchTest_regs (s : State) (b : Bool) :
    (s.latchTest b).regs = s.regs := by
  unfold State.latchTest; split <;> rfl

@[simp] theorem State.latchTest_pc (s : State) (b : Bool) :
    (s.latchTest b).pc = s.pc := by
  unfold State.latchTest; split <;> rfl

@[simp] theorem State.latchTest_flags (s : State) (b : Bool) :
    (s.latchTest b).flags = s.flags := by
  unfold State.latchTest; split <;> rfl

@[simp] theorem State.latchTest_levels (s : State) (b : Bool) :
    (s.latchTest b).levels = s.levels := by
  unfold State.latchTest; split <;> rfl

@[simp] theorem State.latchTest_cnt (s : State) (b : Bool) :
    (s.latchTest b).cnt = s.cnt := by
  unfold State.latchTest; split <;> rfl

@[simp] theorem State.latchTest_freqOut (s : State) (b : Bool) :
    (s.latchTest b).freqOut = s.freqOut := by
  unfold State.latchTest; split <;> rfl

@[simp] theorem State.latchTest_halted (s : State) (b : Bool) :
    (s.latchTest b).halted = s.halted := by
  unfold State.latchTest; split <;> rfl

@[simp] theorem State.latchTest_romMode (s : State) (b : Bool) :
    (s.latchTest b).romMode = s.romMode := by
  unfold State.latchTest; split <;> rfl

@[simp] theorem State.latchTest_statCtl (s : State) (b : Bool) :
    (s.latchTest b).statCtl = s.statCtl := by
  unfold State.latchTest; split <;> rfl

@[simp] theorem State.latchTest_mulShadow (s : State) (b : Bool) :
    (s.latchTest b).mulShadow = s.mulShadow := by
  unfold State.latchTest; split <;> rfl

@[simp] theorem State.latchTest_dm (s : State) (b : Bool) :
    (s.latchTest b).dm = s.dm := by
  unfold State.latchTest; split <;> rfl

@[simp] theorem State.latchTest_pm (s : State) (b : Bool) :
    (s.latchTest b).pm = s.pm := by
  unfold State.latchTest; split <;> rfl

@[simp] theorem State.latchTest_platform (s : State) (b : Bool) :
    (s.latchTest b).platform = s.platform := by
  unfold State.latchTest; split <;> rfl

@[simp] theorem State.latchTest_inputs (s : State) (b : Bool) :
    (s.latchTest b).inputs = s.inputs := by
  unfold State.latchTest; split <;> rfl

@[simp] theorem State.latchTest_deviceLog (s : State) (b : Bool) :
    (s.latchTest b).deviceLog = s.deviceLog := by
  unfold State.latchTest; split <;> rfl

@[simp] theorem State.latchTest_haltHeld (s : State) (b : Bool) :
    (s.latchTest b).haltHeld = s.haltHeld := by
  unfold State.latchTest; split <;> rfl

/-! ### `leaveHalt`: the fields it never changes -/

@[simp] theorem State.leaveHalt_regs (s : State) :
    (s.leaveHalt).regs = s.regs := by
  unfold State.leaveHalt; split <;> rfl

@[simp] theorem State.leaveHalt_pc (s : State) :
    (s.leaveHalt).pc = s.pc := by
  unfold State.leaveHalt; split <;> rfl

@[simp] theorem State.leaveHalt_flags (s : State) :
    (s.leaveHalt).flags = s.flags := by
  unfold State.leaveHalt; split <;> rfl

@[simp] theorem State.leaveHalt_levels (s : State) :
    (s.leaveHalt).levels = s.levels := by
  unfold State.leaveHalt; split <;> rfl

@[simp] theorem State.leaveHalt_cnt (s : State) :
    (s.leaveHalt).cnt = s.cnt := by
  unfold State.leaveHalt; split <;> rfl

@[simp] theorem State.leaveHalt_freqOut (s : State) :
    (s.leaveHalt).freqOut = s.freqOut := by
  unfold State.leaveHalt; split <;> rfl

@[simp] theorem State.leaveHalt_romMode (s : State) :
    (s.leaveHalt).romMode = s.romMode := by
  unfold State.leaveHalt; split <;> rfl

@[simp] theorem State.leaveHalt_statCtl (s : State) :
    (s.leaveHalt).statCtl = s.statCtl := by
  unfold State.leaveHalt; split <;> rfl

@[simp] theorem State.leaveHalt_mulShadow (s : State) :
    (s.leaveHalt).mulShadow = s.mulShadow := by
  unfold State.leaveHalt; split <;> rfl

@[simp] theorem State.leaveHalt_dm (s : State) :
    (s.leaveHalt).dm = s.dm := by
  unfold State.leaveHalt; split <;> rfl

@[simp] theorem State.leaveHalt_pm (s : State) :
    (s.leaveHalt).pm = s.pm := by
  unfold State.leaveHalt; split <;> rfl

@[simp] theorem State.leaveHalt_testReg (s : State) :
    (s.leaveHalt).testReg = s.testReg := by
  unfold State.leaveHalt; split <;> rfl

@[simp] theorem State.leaveHalt_testEn (s : State) :
    (s.leaveHalt).testEn = s.testEn := by
  unfold State.leaveHalt; split <;> rfl

@[simp] theorem State.leaveHalt_platform (s : State) :
    (s.leaveHalt).platform = s.platform := by
  unfold State.leaveHalt; split <;> rfl

@[simp] theorem State.leaveHalt_inputs (s : State) :
    (s.leaveHalt).inputs = s.inputs := by
  unfold State.leaveHalt; split <;> rfl

@[simp] theorem State.leaveHalt_deviceLog (s : State) :
    (s.leaveHalt).deviceLog = s.deviceLog := by
  unfold State.leaveHalt; split <;> rfl

@[simp] theorem State.leaveHalt_draws (s : State) :
    (s.leaveHalt).draws = s.draws := by
  unfold State.leaveHalt; split <;> rfl

/-! ### `capture`: the fields it never changes -/

@[simp] theorem State.capture_regs (s : State) :
    (s.capture).regs = s.regs := by
  unfold State.capture; split <;> rfl

@[simp] theorem State.capture_pc (s : State) :
    (s.capture).pc = s.pc := by
  unfold State.capture; split <;> rfl

@[simp] theorem State.capture_flags (s : State) :
    (s.capture).flags = s.flags := by
  unfold State.capture; split <;> rfl

@[simp] theorem State.capture_levels (s : State) :
    (s.capture).levels = s.levels := by
  unfold State.capture; split <;> rfl

@[simp] theorem State.capture_cnt (s : State) :
    (s.capture).cnt = s.cnt := by
  unfold State.capture; split <;> rfl

@[simp] theorem State.capture_freqOut (s : State) :
    (s.capture).freqOut = s.freqOut := by
  unfold State.capture; split <;> rfl

@[simp] theorem State.capture_halted (s : State) :
    (s.capture).halted = s.halted := by
  unfold State.capture; split <;> rfl

@[simp] theorem State.capture_romMode (s : State) :
    (s.capture).romMode = s.romMode := by
  unfold State.capture; split <;> rfl

@[simp] theorem State.capture_statCtl (s : State) :
    (s.capture).statCtl = s.statCtl := by
  unfold State.capture; split <;> rfl

@[simp] theorem State.capture_mulShadow (s : State) :
    (s.capture).mulShadow = s.mulShadow := by
  unfold State.capture; split <;> rfl

@[simp] theorem State.capture_dm (s : State) :
    (s.capture).dm = s.dm := by
  unfold State.capture; split <;> rfl

@[simp] theorem State.capture_pm (s : State) :
    (s.capture).pm = s.pm := by
  unfold State.capture; split <;> rfl

@[simp] theorem State.capture_testEn (s : State) :
    (s.capture).testEn = s.testEn := by
  unfold State.capture; split <;> rfl

@[simp] theorem State.capture_platform (s : State) :
    (s.capture).platform = s.platform := by
  unfold State.capture; split <;> rfl

@[simp] theorem State.capture_inputs (s : State) :
    (s.capture).inputs = s.inputs := by
  unfold State.capture; split <;> rfl

@[simp] theorem State.capture_deviceLog (s : State) :
    (s.capture).deviceLog = s.deviceLog := by
  unfold State.capture; split <;> rfl

@[simp] theorem State.capture_haltHeld (s : State) :
    (s.capture).haltHeld = s.haltHeld := by
  unfold State.capture; split <;> rfl

/-! ### `updateIndex`: the fields it never changes -/

@[simp] theorem State.updateIndex_pc (s : State) (ea : EAddr) :
    (s.updateIndex ea).pc = s.pc := by
  unfold State.updateIndex; split <;> rfl

@[simp] theorem State.updateIndex_flags (s : State) (ea : EAddr) :
    (s.updateIndex ea).flags = s.flags := by
  unfold State.updateIndex; split <;> rfl

@[simp] theorem State.updateIndex_levels (s : State) (ea : EAddr) :
    (s.updateIndex ea).levels = s.levels := by
  unfold State.updateIndex; split <;> rfl

@[simp] theorem State.updateIndex_cnt (s : State) (ea : EAddr) :
    (s.updateIndex ea).cnt = s.cnt := by
  unfold State.updateIndex; split <;> rfl

@[simp] theorem State.updateIndex_freqOut (s : State) (ea : EAddr) :
    (s.updateIndex ea).freqOut = s.freqOut := by
  unfold State.updateIndex; split <;> rfl

@[simp] theorem State.updateIndex_halted (s : State) (ea : EAddr) :
    (s.updateIndex ea).halted = s.halted := by
  unfold State.updateIndex; split <;> rfl

@[simp] theorem State.updateIndex_romMode (s : State) (ea : EAddr) :
    (s.updateIndex ea).romMode = s.romMode := by
  unfold State.updateIndex; split <;> rfl

@[simp] theorem State.updateIndex_statCtl (s : State) (ea : EAddr) :
    (s.updateIndex ea).statCtl = s.statCtl := by
  unfold State.updateIndex; split <;> rfl

@[simp] theorem State.updateIndex_mulShadow (s : State) (ea : EAddr) :
    (s.updateIndex ea).mulShadow = s.mulShadow := by
  unfold State.updateIndex; split <;> rfl

@[simp] theorem State.updateIndex_dm (s : State) (ea : EAddr) :
    (s.updateIndex ea).dm = s.dm := by
  unfold State.updateIndex; split <;> rfl

@[simp] theorem State.updateIndex_pm (s : State) (ea : EAddr) :
    (s.updateIndex ea).pm = s.pm := by
  unfold State.updateIndex; split <;> rfl

@[simp] theorem State.updateIndex_testReg (s : State) (ea : EAddr) :
    (s.updateIndex ea).testReg = s.testReg := by
  unfold State.updateIndex; split <;> rfl

@[simp] theorem State.updateIndex_testEn (s : State) (ea : EAddr) :
    (s.updateIndex ea).testEn = s.testEn := by
  unfold State.updateIndex; split <;> rfl

@[simp] theorem State.updateIndex_platform (s : State) (ea : EAddr) :
    (s.updateIndex ea).platform = s.platform := by
  unfold State.updateIndex; split <;> rfl

@[simp] theorem State.updateIndex_inputs (s : State) (ea : EAddr) :
    (s.updateIndex ea).inputs = s.inputs := by
  unfold State.updateIndex; split <;> rfl

@[simp] theorem State.updateIndex_deviceLog (s : State) (ea : EAddr) :
    (s.updateIndex ea).deviceLog = s.deviceLog := by
  unfold State.updateIndex; split <;> rfl

@[simp] theorem State.updateIndex_haltHeld (s : State) (ea : EAddr) :
    (s.updateIndex ea).haltHeld = s.haltHeld := by
  unfold State.updateIndex; split <;> rfl

@[simp] theorem State.updateIndex_draws (s : State) (ea : EAddr) :
    (s.updateIndex ea).draws = s.draws := by
  unfold State.updateIndex; split <;> rfl

/-! ### `updateForm`: the fields it never changes -/

@[simp] theorem State.updateForm_pc (s : State) (form : AluForm) :
    (s.updateForm form).pc = s.pc := by
  unfold State.updateForm; split <;> simp

@[simp] theorem State.updateForm_flags (s : State) (form : AluForm) :
    (s.updateForm form).flags = s.flags := by
  unfold State.updateForm; split <;> simp

@[simp] theorem State.updateForm_levels (s : State) (form : AluForm) :
    (s.updateForm form).levels = s.levels := by
  unfold State.updateForm; split <;> simp

@[simp] theorem State.updateForm_cnt (s : State) (form : AluForm) :
    (s.updateForm form).cnt = s.cnt := by
  unfold State.updateForm; split <;> simp

@[simp] theorem State.updateForm_freqOut (s : State) (form : AluForm) :
    (s.updateForm form).freqOut = s.freqOut := by
  unfold State.updateForm; split <;> simp

@[simp] theorem State.updateForm_halted (s : State) (form : AluForm) :
    (s.updateForm form).halted = s.halted := by
  unfold State.updateForm; split <;> simp

@[simp] theorem State.updateForm_romMode (s : State) (form : AluForm) :
    (s.updateForm form).romMode = s.romMode := by
  unfold State.updateForm; split <;> simp

@[simp] theorem State.updateForm_statCtl (s : State) (form : AluForm) :
    (s.updateForm form).statCtl = s.statCtl := by
  unfold State.updateForm; split <;> simp

@[simp] theorem State.updateForm_mulShadow (s : State) (form : AluForm) :
    (s.updateForm form).mulShadow = s.mulShadow := by
  unfold State.updateForm; split <;> simp

@[simp] theorem State.updateForm_dm (s : State) (form : AluForm) :
    (s.updateForm form).dm = s.dm := by
  unfold State.updateForm; split <;> simp

@[simp] theorem State.updateForm_pm (s : State) (form : AluForm) :
    (s.updateForm form).pm = s.pm := by
  unfold State.updateForm; split <;> simp

@[simp] theorem State.updateForm_testReg (s : State) (form : AluForm) :
    (s.updateForm form).testReg = s.testReg := by
  unfold State.updateForm; split <;> simp

@[simp] theorem State.updateForm_testEn (s : State) (form : AluForm) :
    (s.updateForm form).testEn = s.testEn := by
  unfold State.updateForm; split <;> simp

@[simp] theorem State.updateForm_platform (s : State) (form : AluForm) :
    (s.updateForm form).platform = s.platform := by
  unfold State.updateForm; split <;> simp

@[simp] theorem State.updateForm_inputs (s : State) (form : AluForm) :
    (s.updateForm form).inputs = s.inputs := by
  unfold State.updateForm; split <;> simp

@[simp] theorem State.updateForm_deviceLog (s : State) (form : AluForm) :
    (s.updateForm form).deviceLog = s.deviceLog := by
  unfold State.updateForm; split <;> simp

@[simp] theorem State.updateForm_haltHeld (s : State) (form : AluForm) :
    (s.updateForm form).haltHeld = s.haltHeld := by
  unfold State.updateForm; split <;> simp

@[simp] theorem State.updateForm_draws (s : State) (form : AluForm) :
    (s.updateForm form).draws = s.draws := by
  unfold State.updateForm; split <;> simp

end Sys2Proof.Machine
end

