-- ==== Sys2Proof/Laws/Memory.lean ====
section
/-! SUPPORT. The laws of the canonical memory: a read after a write, and that every operation keeps the form. -/

namespace Sys2Proof.Machine

variable {n : Nat}

@[simp] theorem Memory.lookup_insert_same (m : List (Nat × BitVec n)) (a : Nat) (v : BitVec n) :
    Memory.lookup (Memory.insert m a v) a = some v := by
  induction m with
  | nil => simp [Memory.insert, Memory.lookup]
  | cons e rest ih =>
    obtain ⟨k, x⟩ := e
    simp only [Memory.insert]
    split
    · simp [Memory.lookup]
    · split
      · simp [Memory.lookup]
      · rename_i h
        simp [Memory.lookup, h, ih]

theorem Memory.lookup_insert_other (m : List (Nat × BitVec n)) {a b : Nat} (v : BitVec n) (h : b ≠ a) :
    Memory.lookup (Memory.insert m a v) b = Memory.lookup m b := by
  induction m with
  | nil => simp [Memory.insert, Memory.lookup, h]
  | cons e rest ih =>
    obtain ⟨k, x⟩ := e
    simp only [Memory.insert]
    split
    · simp [Memory.lookup, h]
    · split
      · rename_i h2
        subst h2
        simp [Memory.lookup, h]
      · simp [Memory.lookup, ih]

theorem Memory.wfFrom_mono {m : List (Nat × BitVec n)} {lo lo' : Nat} (h : lo' ≤ lo)
    (hw : Memory.wfFrom lo m = true) : Memory.wfFrom lo' m = true := by
  cases m with
  | nil => rfl
  | cons e rest =>
    obtain ⟨k, x⟩ := e
    simp only [Memory.wfFrom, Bool.and_eq_true, decide_eq_true_eq] at hw ⊢
    exact ⟨⟨by omega, hw.1.2⟩, hw.2⟩

theorem Memory.wfFrom_insert {m : List (Nat × BitVec n)} {lo a : Nat} (v : BitVec n) (hlo : lo ≤ a)
    (ha : a < 65536) (hw : Memory.wfFrom lo m = true) : Memory.wfFrom lo (Memory.insert m a v) = true := by
  induction m generalizing lo with
  | nil => simp [Memory.insert, Memory.wfFrom, hlo, ha]
  | cons e rest ih =>
    obtain ⟨k, x⟩ := e
    simp only [Memory.wfFrom, Bool.and_eq_true, decide_eq_true_eq] at hw
    simp only [Memory.insert]
    split
    · rename_i h
      simp only [Memory.wfFrom, Bool.and_eq_true, decide_eq_true_eq]
      exact ⟨⟨hlo, ha⟩, ⟨by omega, hw.1.2⟩, hw.2⟩
    · split
      · rename_i h
        subst h
        simp only [Memory.wfFrom, Bool.and_eq_true, decide_eq_true_eq]
        exact hw
      · simp only [Memory.wfFrom, Bool.and_eq_true, decide_eq_true_eq]
        exact ⟨hw.1, ih (by omega) hw.2⟩

/-- A write keeps the canonical form. -/
theorem Memory.wf_insert {m : List (Nat × BitVec n)} {a : Nat} (v : BitVec n) (ha : a < 65536)
    (hw : Memory.wf m = true) : Memory.wf (Memory.insert m a v) = true :=
  Memory.wfFrom_insert v (Nat.zero_le a) ha hw

@[simp] theorem Memory.wf_nil : Memory.wf ([] : List (Nat × BitVec n)) = true := rfl

/-- The memories of the reset state have the form. -/
theorem reset_memory_wf : Memory.wf State.reset.dm = true ∧ Memory.wf State.reset.pm = true := ⟨rfl, rfl⟩

/-! ### Bytes of the data memory -/

theorem State.byteAt_setByte (s : State) (a b : Word) (v : Byte) :
    (s.setByte a v).byteAt b = if b = a then v else s.byteAt b := by
  unfold State.byteAt
  split
  · next h => subst h; simp
  · next h =>
    have h2 : b.toNat ≠ a.toNat := fun e => h (BitVec.eq_of_toNat_eq e)
    simp [Memory.lookup_insert_other _ _ h2]

/-- A store changes the byte at its address at most. -/
theorem State.byteAt_writeData_other (s : State) {a b : Word} (v : Byte) (h : b ≠ a) :
    (s.writeData a v).byteAt b = s.byteAt b := by
  unfold State.writeData
  split
  · simp [State.byteAt_setByte, h]
  · simp [State.byteAt_setByte, h]
  · rfl
  · exact (State.byteAt_setByte s a b _).trans (if_neg h)

/-- A store to RAM is read back. -/
theorem State.byteAt_writeData_ram (s : State) {a : Word} (v : Byte)
    (h : s.kindAt a = .ram ∨ s.kindAt a = .shared) : (s.writeData a v).byteAt a = v := by
  unfold State.writeData
  rcases h with h | h <;> simp [h, State.byteAt_setByte]

theorem State.wf_writeData {s : State} (a : Word) (v : Byte) (h : Memory.wf s.dm = true) :
    Memory.wf (s.writeData a v).dm = true := by
  unfold State.writeData
  split
  · exact Memory.wf_insert _ a.isLt h
  · exact Memory.wf_insert _ a.isLt h
  · exact h
  · exact Memory.wf_insert _ a.isLt h

theorem State.wf_busWrite {s : State} (w : Word × Byte) (h : Memory.wf s.dm = true) :
    Memory.wf (s.busWrite w).dm = true := by
  unfold State.busWrite
  split
  · exact Memory.wf_insert _ w.1.isLt h
  all_goals exact h

/-- `byteAt` and `kindAt` depend on the data memory and the platform alone. -/
theorem State.byteAt_congr {s t : State} (h : s.dm = t.dm) (a : Word) : s.byteAt a = t.byteAt a := by
  unfold State.byteAt; rw [h]

theorem State.kindAt_congr {s t : State} (h : s.platform = t.platform) (a : Word) : s.kindAt a = t.kindAt a := by
  unfold State.kindAt; rw [h]

end Sys2Proof.Machine
end

