-- ==== Sys2Proof/Laws/Registers.lean ====
section
/-! SUPPORT. Reading a register after a write, pairs, and the bits of `stat`. -/

namespace Sys2Proof.Machine

theorem Regs.get_set (rs : Regs) (r q : Reg) (v : Byte) : (rs.set r v).get q = if q = r then v else rs.get q := by
  cases r <;> cases q <;> rfl

@[simp] theorem Regs.get_set_same (rs : Regs) (r : Reg) (v : Byte) : (rs.set r v).get r = v := by
  simp [Regs.get_set]

theorem Regs.get_set_other {rs : Regs} {r q : Reg} {v : Byte} (h : q ≠ r) : (rs.set r v).get q = rs.get q := by
  simp [Regs.get_set, h]

/-- Two register files that read alike are equal. -/
theorem Regs.ext_get {rs ts : Regs} (h : ∀ r, rs.get r = ts.get r) : rs = ts := by
  cases rs; cases ts
  have := h .i0l; have := h .i0h; have := h .i1l; have := h .i1h
  have := h .i2l; have := h .i2h; have := h .i3l; have := h .i3h
  have := h .ipl; have := h .iph; have := h .stat; have := h .r3
  have := h .r2; have := h .r1; have := h .r0; have := h .a
  simp_all [Regs.get]

@[simp] theorem Regs.set_get (rs : Regs) (r : Reg) : rs.set r (rs.get r) = rs := by
  cases r <;> rfl

@[simp] theorem Regs.set_set (rs : Regs) (r : Reg) (v w : Byte) : (rs.set r v).set r w = rs.set r w := by
  cases r <;> rfl

@[simp] theorem Regs.get_stat (rs : Regs) : rs.get .stat = rs.stat := rfl
@[simp] theorem Regs.get_a (rs : Regs) : rs.get .a = rs.a := rfl
@[simp] theorem Regs.get_r3 (rs : Regs) : rs.get .r3 = rs.r3 := rfl
@[simp] theorem Regs.get_ipl (rs : Regs) : rs.get .ipl = rs.ipl := rfl
@[simp] theorem Regs.get_iph (rs : Regs) : rs.get .iph = rs.iph := rfl

@[simp] theorem Regs.set_stat_stat (rs : Regs) (v : Byte) : (rs.set .stat v).stat = v := rfl
@[simp] theorem Regs.set_a_a (rs : Regs) (v : Byte) : (rs.set .a v).a = v := rfl

theorem Ix.lo_ne_hi (ix : Ix) : ix.lo ≠ ix.hi := by cases ix <;> decide

/-- What a register reads after a pair is written. -/
theorem Regs.get_setPair (rs : Regs) (ix : Ix) (w : Word) (q : Reg) :
    (rs.setPair ix w).get q =
      if q = ix.lo then w.extractLsb' 0 8 else if q = ix.hi then w.extractLsb' 8 8 else rs.get q := by
  simp only [Regs.setPair, Regs.get_set]

@[simp] theorem Regs.pair_setPair (rs : Regs) (ix : Ix) (w : Word) : (rs.setPair ix w).pair ix = w := by
  have h := Ix.lo_ne_hi ix
  simp only [Regs.pair, Regs.get_setPair, if_neg (Ne.symm h), if_true]
  exact BitVec.extractLsb'_append_extractLsb'_eq_extractLsb' (by omega) |>.trans (by simp)

/-- What a register reads after `ip` is written. -/
theorem Regs.get_setIp (rs : Regs) (w : Word) (q : Reg) :
    (rs.setIp w).get q =
      if q = .ipl then w.extractLsb' 0 8 else if q = .iph then w.extractLsb' 8 8 else rs.get q := by
  simp only [Regs.setIp, Regs.get_set]

@[simp] theorem Regs.ip_setIp (rs : Regs) (w : Word) : (rs.setIp w).ip = w :=
  BitVec.extractLsb'_append_extractLsb'_eq_extractLsb' (x := w) (by omega) |>.trans (by simp)

/-- `stat` after a write of another register. -/
theorem Regs.stat_set {rs : Regs} {r : Reg} {v : Byte} (h : r ≠ .stat) : (rs.set r v).stat = rs.stat := by
  cases r <;> first | rfl | exact absurd rfl h

end Sys2Proof.Machine
end

