-- ==== Sys2Proof/Laws/Execute.lean ====
section
/-! SUPPORT. One lemma for each shared template and operation that says once everything it can do, and the lemmas that take an
instruction of a builder to its template. -/

namespace Sys2Proof.Machine

/-! ### The multiplier hazard -/

theorem State.hazard_eq_true {s : State} {rs : List Reg} :
    s.hazard rs = true ↔ ∃ d, s.mulShadow = some d ∧ d ∈ rs := by
  unfold State.hazard
  cases s.mulShadow <;> simp

theorem State.hazard_eq_false {s : State} {rs : List Reg} : s.hazard rs = false ↔ s.HazardFree rs := by
  unfold State.hazard State.HazardFree
  cases s.mulShadow <;> simp

/-! ### The ALU class -/

/-- Everything an ALU-class instruction can do. -/
theorem runAlu_next {f : AluFn} {form : AluForm} {s t : State} (h : runAlu f form s = .next t) :
    s.HazardFree form.sources ∧ t = aluNext f form s := by
  unfold runAlu at h
  split at h
  · cases h
  · next hz =>
    simp only [Host.Outcome.next.injEq] at h
    exact ⟨State.hazard_eq_false.1 (by simpa using hz), h.symm⟩

theorem runAlu_of_hazardFree {f : AluFn} {form : AluForm} {s : State} (h : s.HazardFree form.sources) :
    runAlu f form s = .next (aluNext f form s) := by
  simp [runAlu, State.hazard_eq_false.2 h]

theorem runAlu_of_hazard {f : AluFn} {form : AluForm} {s : State} (h : s.hazard form.sources = true) :
    runAlu f form s = .refused .multiplierHazard := by
  simp [runAlu, h]

theorem runAlu_ne_fault {f : AluFn} {form : AluForm} {s : State} {r : Fault} : runAlu f form s ≠ .fault r := by
  unfold runAlu
  split <;> simp

theorem postincrement_eq (x : Word) (o : BitVec 7) :
    BitVec.ofNat 16 (x.toNat + o.toNat) = x + o.zeroExtend 16 := by
  apply BitVec.eq_of_toNat_eq
  simp

theorem predecrement_eq (x : Word) (f : BitVec 7) :
    BitVec.ofInt 16 (x.toNat + (f.toNat : Int) - 128) = x + predecDisplacement f := by
  have h : (predecDisplacement f).toNat = 65408 + f.toNat := by
    unfold predecDisplacement
    rw [BitVec.toNat_append, ← Nat.shiftLeft_add_eq_or_of_lt f.isLt]
    simp [Nat.shiftLeft_eq]
  apply BitVec.eq_of_toNat_eq
  rw [BitVec.toNat_add, h, BitVec.toNat_ofInt]
  have := x.isLt
  have := f.isLt
  omega

/-- The index update of the model is the arithmetic of the statements. -/
theorem State.regs_updateForm (s : State) (form : AluForm) : (s.updateForm form).regs = s.regsAfterIndex form := by
  cases form with
  | mem reg ea =>
    cases ea <;> simp [State.updateForm, State.updateIndex, State.regsAfterIndex, postincrement_eq, predecrement_eq]
  | imm _ _ => rfl
  | regs _ _ _ => rfl

/-- The template on one record. -/
theorem aluNext_eq (f : AluFn) (form : AluForm) (s : State) : aluNext f form s = s.afterAlu form (s.aluOut f form) := by
  have hu : s.updateForm form = { s with regs := s.regsAfterIndex form } := by
    rw [← State.regs_updateForm]
    cases form with
    | mem reg ea => cases ea <;> rfl
    | imm _ _ => rfl
    | regs _ _ _ => rfl
  simp only [aluNext, State.finish, hu, State.afterAlu, State.nextPc]

/-- Every ALU-class instruction is the template with the function of its operation. -/
theorem exec_ofAlu {op : AluOp} {form : AluForm} {i : Instr} (h : Instr.ofAlu op form = some i) (s : State) :
    exec i s = runAlu (aluFn op) form s := by
  cases form with
  | mem reg ea =>
    cases ea <;> cases op <;>
      simp only [Instr.ofAlu, sevenForms, sixForms, memForm, Option.some.injEq, reduceCtorEq] at h <;> subst h <;> rfl
  | imm reg data =>
    cases op <;>
      simp only [Instr.ofAlu, sevenForms, sixForms, Option.some.injEq, reduceCtorEq] at h <;> subst h <;> rfl
  | regs res op1 op2 =>
    cases op <;>
      simp only [Instr.ofAlu, sevenForms, sixForms, Option.some.injEq, reduceCtorEq] at h <;> subst h <;> rfl

/-- A completion statement of an operation follows from its function on bytes. -/
theorem answers_of_fn {op : AluOp} {g : AluFn} (h : ∀ x y f n, aluFn op x y f n = g x y f n) : Answers op g := by
  intro form i s hi hz
  rw [exec_ofAlu hi, runAlu_of_hazardFree hz, aluNext_eq, State.aluOut, h]

/-! ### Stores, jumps, calls -/

theorem exec_store (reg : Reg) (ea : EAddr) (s : State) : exec (.store reg ea) s = runStore reg ea s := by
  cases ea <;> rfl

theorem exec_jcc (c : Cond) (t : Target) (s : State) : exec (.jcc c t) s = runJump c t s := by
  cases c <;> cases t <;> rfl

theorem exec_call (t : Target) (s : State) : exec (.call t) s = runCall t s := by
  cases t <;> rfl

theorem exec_calls (t : Target) (s : State) : exec (.calls t) s = runCalls t s := by
  cases t <;> rfl

/-- Everything a store can do. -/
theorem runStore_next {reg : Reg} {ea : EAddr} {s t : State} (h : runStore reg ea s = .next t) :
    s.HazardFree ea.sources ∧ storesModified reg ea = false ∧ t = storeNext (s.reg reg) ea s := by
  unfold runStore at h
  split at h
  · cases h
  · next hz =>
    split at h
    · cases h
    · next hm =>
      simp only [Host.Outcome.next.injEq] at h
      exact ⟨State.hazard_eq_false.1 (by simpa using hz), by simpa using hm, h.symm⟩

/-- Everything a conditional jump can do. -/
theorem runJump_next {c : Cond} {tg : Target} {s t : State} (h : runJump c tg s = .next t) :
    s.HazardFree tg.sources ∧ t = s.finish s (if s.condition c then s.target tg else s.nextPc) none := by
  unfold runJump at h
  split at h
  · cases h
  · next hz =>
    simp only [Host.Outcome.next.injEq] at h
    exact ⟨State.hazard_eq_false.1 (by simpa using hz), h.symm⟩

/-- Everything a push can do. -/
theorem State.push_eq_some {s t : State} {v : Word} :
    s.push v = some t ↔ s.cnt ≠ s.platform.stackDepth ∧ t = s.pushed v := by
  unfold State.push State.stackFull
  by_cases h : s.cnt = s.platform.stackDepth
  · simp [h]
  · simp only [beq_iff_eq, h, if_false, Option.some.injEq, ne_eq, not_false_eq_true, true_and]
    exact eq_comm

theorem State.push_eq_none {s : State} {v : Word} : s.push v = none ↔ s.cnt = s.platform.stackDepth := by
  unfold State.push State.stackFull
  by_cases h : s.cnt = s.platform.stackDepth <;> simp [h]

/-- Everything a pop can do. -/
theorem State.pop_eq_some {s t : State} {v : Word} :
    s.pop = some (v, t) ↔ s.cnt ≠ 0 ∧ ∃ rest, s.levels = v :: rest ∧
      t = { s with
        levels := rest ++ [Config.freeLevel s.draws], cnt := s.cnt - 1, draws := s.draws + 1 } := by
  unfold State.pop State.stackEmpty
  by_cases h : s.cnt = 0
  · simp [h]
  · cases hl : s.levels with
    | nil => simp [h]
    | cons x rest =>
      simp only [h, beq_iff_eq, if_false, Option.some.injEq, Prod.mk.injEq, List.cons.injEq, ne_eq, not_false_eq_true,
        true_and]
      constructor
      · rintro ⟨rfl, rfl⟩
        exact ⟨rest, ⟨rfl, rfl⟩, rfl⟩
      · rintro ⟨rest', ⟨rfl, rfl⟩, rfl⟩
        exact ⟨rfl, rfl⟩

theorem State.pop_eq_none_of_empty {s : State} (h : s.cnt = 0) : s.pop = none := by
  simp [State.pop, State.stackEmpty, h]

/-- Everything a call can do. -/
theorem runCall_next {tg : Target} {s t : State} (h : runCall tg s = .next t) :
    s.HazardFree tg.sources ∧ s.cnt ≠ s.platform.stackDepth ∧
      t = s.finish (s.pushed s.nextPc) (s.target tg) none := by
  unfold runCall at h
  split at h
  · cases h
  · next hz =>
    split at h
    · cases h
    · next u hu =>
      simp only [Host.Outcome.next.injEq] at h
      obtain ⟨hc, rfl⟩ := State.push_eq_some.1 hu
      exact ⟨State.hazard_eq_false.1 (by simpa using hz), hc, h.symm⟩

/-- Everything a `CALLS` can do. -/
theorem runCalls_next {tg : Target} {s t : State} (h : runCalls tg s = .next t) :
    s.HazardFree tg.sources ∧ t = s.finish (s.setIp s.nextPc) (s.target tg) none := by
  unfold runCalls at h
  split at h
  · cases h
  · next hz =>
    simp only [Host.Outcome.next.injEq] at h
    exact ⟨State.hazard_eq_false.1 (by simpa using hz), h.symm⟩

/-! ### Requests -/

/-- A request that is taken finds room on the stack (60_exceptions.md R321). -/
theorem State.request_not_full {s : State} {ctl : Byte} {k : Level} (h : s.request ctl k = true) :
    s.cnt ≠ s.platform.stackDepth := by
  simp only [State.request, State.stackFull, Bool.and_eq_true, Bool.not_eq_true', beq_eq_false_iff_ne] at h
  exact h.2

/-- `State.wakes` is the condition the statements use. -/
theorem State.wakes_iff {s : State} {ctl : Byte} : s.wakes ctl = true ↔ s.Wakeful ctl := by
  simp only [State.wakes, State.Wakeful, eventActive, Bool.or_eq_true, or_assoc]
  refine or_congr_right (or_congr_right ⟨?_, ?_⟩)
  · rintro (h | h | h) <;> exact ⟨_, h⟩
  · rintro ⟨k, h⟩
    cases k <;> simp [h]

/-- `State.wakeUpJustSet` is the condition the statements use. -/
theorem State.wakeUpJustSet_iff {s : State} : s.wakeUpJustSet = true ↔ s.WakeUpJustSet := by
  have hb : ∀ b, s.justSet b = true ↔ s.JustSet b := fun b => by simp [State.justSet, State.JustSet, State.reg, Regs.get]
  simp only [State.wakeUpJustSet, State.WakeUpJustSet, Bool.or_eq_true, Bool.and_eq_true, hb, or_assoc]
  refine or_congr_right (or_congr_right ⟨?_, ?_⟩)
  · rintro (h | h | h) <;> exact ⟨_, h⟩
  · rintro ⟨k, h⟩
    cases k
    exacts [.inl h, .inr (.inl h), .inr (.inr h)]

/-- A wake-up condition that the instruction before has just set holds on `stat`. -/
theorem State.WakeUpJustSet.wakeful {s : State} (h : s.WakeUpJustSet) : s.Wakeful s.regs.stat := by
  rcases h with h | h | ⟨k, h, -⟩
  exacts [.inl h.1, .inr (.inl h.1), .inr (.inr ⟨k, h⟩)]

theorem State.pending_eq_some {s : State} {k : Level} (h : s.pending = some k) : s.request s.statCtl k = true := by
  unfold State.pending at h
  repeat' split at h
  all_goals first
    | (cases h; assumption)
    | cases h

theorem State.pending_eq_none {s : State} :
    s.pending = none ↔ ∀ k, s.request s.statCtl k = false := by
  unfold State.pending
  constructor
  · intro h k
    by_cases h0 : s.request s.statCtl .level0 <;> by_cases h1 : s.request s.statCtl .level1 <;>
      by_cases h2 : s.request s.statCtl .level2 <;> simp_all
    cases k <;> assumption
  · intro h
    simp [h]

end Sys2Proof.Machine
end

