-- ==== Sys2Proof/Laws/Flags.lean ====
section
/-! SUPPORT. What the shared computations of `Machine/Flags.lean` compute, on numbers: the adder, the adder on a complement, a
compare, a product, and which operations are multiplications. -/

namespace Sys2Proof.Machine

/-- The sign bit of a byte. -/
theorem signBit_eq (x : Byte) : x.getLsbD 7 = decide (128 ≤ x.toNat) := by
  rw [← Bool.coe_iff_coe]
  simp only [BitVec.getLsbD, Nat.testBit_eq_decide_div_mod_eq, decide_eq_true_eq]
  have := x.isLt
  omega

theorem toInt_eq (x : Byte) : x.toInt = if 128 ≤ x.toNat then (x.toNat : Int) - 256 else x.toNat := by
  have := x.isLt
  rw [BitVec.toInt_eq_toNat_cond]
  split <;> split <;> omega

theorem carryNat_eq (f : Flags) : carryNat f = carryIn f.c := rfl

/-- The adder is addition, its C the carry out, its V the signed overflow (42_arith.md R200, log 23). -/
theorem adder_eq_sumOut (x y : Byte) (cin : Bool) : adder x y cin = sumOut x y (carryIn cin) := by
  have hx := x.isLt
  have hy := y.isLt
  have hc : carryIn cin ≤ 1 := by cases cin <;> decide
  have hr : (add8Result x y cin).toNat = (x.toNat + y.toNat + carryIn cin) % 256 := by simp [add8Result]
  have hv : (add8Flags x y cin).v = overflows (x.toInt + y.toInt + carryIn cin) := by
    rw [← Bool.coe_iff_coe]
    simp only [add8Flags, overflows, signBit_eq, hr, toInt_eq, Bool.and_eq_true, Bool.not_eq_true', beq_iff_eq,
      beq_eq_false_iff_ne, ne_eq, decide_eq_decide, decide_eq_true_eq]
    split <;> split <;> omega
  simp only [adder, arith, sumOut, writesBoth, ← hv]
  rfl

/-- The adder on the complement is the difference (42_arith.md R203, R204). -/
theorem adder_eq_differenceOut (x y : Byte) (cin : Bool) :
    adder x (~~~y) cin = differenceOut x y (1 - carryIn cin) := by
  have hx := x.isLt
  have hy := y.isLt
  have hc : carryIn cin ≤ 1 := by cases cin <;> decide
  have hn : (~~~y).toNat = 255 - y.toNat := by simp [BitVec.toNat_not]
  have hi : (~~~y).toInt = -1 - y.toInt := by
    rw [toInt_eq, toInt_eq, hn]
    split <;> split <;> omega
  have e1 : BitVec.ofNat 8 (x.toNat + (~~~y).toNat + carryIn cin) =
      BitVec.ofInt 8 ((x.toNat : Int) - y.toNat - (1 - carryIn cin : Nat)) := by
    apply BitVec.eq_of_toNat_eq
    simp only [BitVec.toNat_ofNat, BitVec.toNat_ofInt, hn]
    omega
  have e2 : decide (256 ≤ x.toNat + (~~~y).toNat + carryIn cin) = decide (y.toNat + (1 - carryIn cin) ≤ x.toNat) := by
    rw [hn, decide_eq_decide]
    omega
  have e3 : x.toInt + (~~~y).toInt + carryIn cin = x.toInt - y.toInt - (1 - carryIn cin : Nat) := by
    rw [hi]
    omega
  rw [adder_eq_sumOut]
  simp only [sumOut, differenceOut, e1, e2, e3]

/-- A compare gives the flags of its order, where the order is a strict total one on the two bytes. -/
theorem compareBytes_eq {d s : Byte} {greater less : Bool} (h : less = (!greater && !(d == s))) :
    compareBytes d s greater = compareOut d s greater less := by
  have e : s - d = BitVec.ofInt 8 ((s.toNat : Int) - d.toNat) := by
    have := s.isLt
    have := d.isLt
    apply BitVec.eq_of_toNat_eq
    simp only [BitVec.toNat_sub, BitVec.toNat_ofInt]
    omega
  simp only [compareBytes, compareOut, h, e]

/-- The two bytes of a product (42_arith.md R215). -/
theorem multiply_eq (p : Int) (draws : Nat) : multiply (BitVec.ofInt 16 p) draws = productOut p draws := by
  have h1 : (BitVec.ofInt 16 p).extractLsb' 8 8 = BitVec.ofInt 8 (p / 256) := by
    apply BitVec.eq_of_toNat_eq
    simp only [BitVec.extractLsb'_toNat, BitVec.toNat_ofInt, Nat.shiftRight_eq_div_pow]
    omega
  have h2 : (BitVec.ofInt 16 p).extractLsb' 0 8 = BitVec.ofInt 8 p := by
    apply BitVec.eq_of_toNat_eq
    simp only [BitVec.extractLsb'_toNat, BitVec.toNat_ofInt, Nat.shiftRight_eq_div_pow]
    omega
  simp only [multiply, productOut, h1, h2]

/-- `MUL` and `MULA` alone are multiplications. -/
theorem aluFn_mul (op : AluOp) (x y : Byte) (f : Flags) (n : Nat) :
    (aluFn op x y f n).mul = decide (op = .mul ∨ op = .mula) := by
  cases op
  case incc => simp only [aluFn, aluIncc, adderFreeV]; split <;> rfl
  case decc => simp only [aluFn, aluDecc, adderFreeV]; split <;> rfl
  case cpl2c => simp only [aluFn, aluCpl2c, adderFreeV]; split <;> rfl
  all_goals rfl

end Sys2Proof.Machine
end

