-- ==== Sys2Proof/Laws/Frame.lean ====
section
/-! SUPPORT. Everything the execution of an instruction can do, said once, and the fields it never touches. -/

namespace Sys2Proof.Machine

/-- Everything `exec` can do where it answers a next state: one disjunct for each class of instructions. -/
theorem exec_next {i : Instr} {s t : State} (h : exec i s = .next t) :
    (∃ op form, Instr.ofAlu op form = some i ∧ s.HazardFree form.sources ∧ t = aluNext (aluFn op) form s) ∨
      (∃ reg ea, i = .store reg ea ∧ s.HazardFree ea.sources ∧ storesModified reg ea = false ∧
        t = storeNext (s.reg reg) ea s) ∨
      (∃ addr data, i = .moveToDirectImm addr data ∧ t = storeNext data (.direct addr) s) ∨
      (∃ c tg, i = .jcc c tg ∧ s.HazardFree tg.sources ∧
        t = s.finish s (if s.condition c then s.target tg else s.nextPc) none) ∨
      (∃ tg, i = .call tg ∧ s.HazardFree tg.sources ∧ s.cnt ≠ s.platform.stackDepth ∧
        t = s.finish (s.pushed s.nextPc) (s.target tg) none) ∨
      (∃ tg, i = .calls tg ∧ s.HazardFree tg.sources ∧ t = s.finish (s.setIp s.nextPc) (s.target tg) none) ∨
      (i = .ret ∧ ∃ v u, s.pop = some (v, u) ∧ t = s.finish u v none) ∨
      (i = .reti ∧ s.interruptReturn = some t) ∨
      (i = .push ∧ s.HazardFree ipRegs ∧ s.cnt ≠ s.platform.stackDepth ∧
        t = s.finish (s.pushed s.regs.ip) s.nextPc none) ∨
      (i = .pop ∧ ∃ v u, s.pop = some (v, u) ∧ t = s.finish (u.setIp v) s.nextPc none) ∨
      (i = .sflag ∧ execSflag s = .next t) ∨
      (i = .halt ∧ execHalt s = .next t) ∨
      (i = .nop ∧ t = s.finish s s.nextPc none) ∨
      (∃ on, i = .pmd on ∧ (on = true → s.testEn = true) ∧ t = s.finish { s with romMode := on } s.nextPc none) ∨
      ∃ divn, i = .freq divn ∧ divnDefined divn = true ∧ t = s.finish { s with freqOut := divn } s.nextPc none := by
  rcases Laws.classified i with ⟨op, form, hi, -, -⟩ | ⟨reg, ea, rfl, -⟩ | ⟨addr, data, rfl⟩ | ⟨c, tg, rfl, -⟩ |
    ⟨tg, rfl⟩ | ⟨tg, rfl⟩ | (rfl | rfl | rfl | rfl | rfl | rfl | rfl) | ⟨on, rfl⟩ | ⟨divn, rfl⟩
  · rw [exec_ofAlu hi] at h
    exact .inl ⟨op, form, hi, runAlu_next h⟩
  · rw [exec_store] at h
    exact .inr (.inl ⟨reg, ea, rfl, runStore_next h⟩)
  · simp only [exec, execMoveToDirectImm, Host.Outcome.next.injEq] at h
    exact .inr (.inr (.inl ⟨addr, data, rfl, h.symm⟩))
  · rw [exec_jcc] at h
    exact .inr (.inr (.inr (.inl ⟨c, tg, rfl, runJump_next h⟩)))
  · rw [exec_call] at h
    exact .inr (.inr (.inr (.inr (.inl ⟨tg, rfl, runCall_next h⟩))))
  · rw [exec_calls] at h
    exact .inr (.inr (.inr (.inr (.inr (.inl ⟨tg, rfl, runCalls_next h⟩)))))
  · simp only [exec, execRet] at h
    split at h
    · cases h
    · next v u hp =>
      simp only [Host.Outcome.next.injEq] at h
      exact .inr (.inr (.inr (.inr (.inr (.inr (.inl ⟨rfl, v, u, hp, h.symm⟩))))))
  · simp only [exec, execReti] at h
    split at h
    · cases h
    · next u hu =>
      simp only [Host.Outcome.next.injEq] at h
      subst h
      exact .inr (.inr (.inr (.inr (.inr (.inr (.inr (.inl ⟨rfl, hu⟩)))))))
  · simp only [exec, execPush] at h
    split at h
    · cases h
    · next hz =>
      split at h
      · cases h
      · next u hu =>
        simp only [Host.Outcome.next.injEq] at h
        obtain ⟨hc, rfl⟩ := State.push_eq_some.1 hu
        exact .inr (.inr (.inr (.inr (.inr (.inr (.inr (.inr (.inl
          ⟨rfl, State.hazard_eq_false.1 (by simpa using hz), hc, h.symm⟩))))))))
  · simp only [exec, execPop] at h
    split at h
    · cases h
    · next v u hp =>
      simp only [Host.Outcome.next.injEq] at h
      exact .inr (.inr (.inr (.inr (.inr (.inr (.inr (.inr (.inr (.inl ⟨rfl, v, u, hp, h.symm⟩)))))))))
  · exact .inr (.inr (.inr (.inr (.inr (.inr (.inr (.inr (.inr (.inr (.inl ⟨rfl, h⟩))))))))))
  · exact .inr (.inr (.inr (.inr (.inr (.inr (.inr (.inr (.inr (.inr (.inr (.inl ⟨rfl, h⟩)))))))))))
  · simp only [exec, execNop, Host.Outcome.next.injEq] at h
    exact .inr (.inr (.inr (.inr (.inr (.inr (.inr (.inr (.inr (.inr (.inr (.inr (.inl ⟨rfl, h.symm⟩))))))))))))
  · simp only [exec, execPmd] at h
    split at h
    · cases h
    · next hc =>
      simp only [Host.Outcome.next.injEq] at h
      refine .inr (.inr (.inr (.inr (.inr (.inr (.inr (.inr (.inr (.inr (.inr (.inr (.inr (.inl
        ⟨on, rfl, ?_, h.symm⟩)))))))))))))
      rintro rfl
      simpa using hc
  · simp only [exec, execFreq] at h
    split at h
    · next hd =>
      simp only [Host.Outcome.next.injEq] at h
      exact .inr (.inr (.inr (.inr (.inr (.inr (.inr (.inr (.inr (.inr (.inr (.inr (.inr (.inr
        ⟨divn, rfl, hd, h.symm⟩)))))))))))))
    · cases h

/-- The fields that no instruction touches: program memory, the platform, the inputs to come and the test interface. -/
structure SameOutside (s t : State) : Prop where
  pm : t.pm = s.pm
  platform : t.platform = s.platform
  inputs : t.inputs = s.inputs
  testEn : t.testEn = s.testEn
  testReg : t.testReg = s.testReg

theorem State.updateForm_same (s : State) (form : AluForm) : SameOutside s (s.updateForm form) := by
  cases form with
  | mem reg ea => cases ea <;> exact ⟨rfl, rfl, rfl, rfl, rfl⟩
  | imm _ _ => exact ⟨rfl, rfl, rfl, rfl, rfl⟩
  | regs _ _ _ => exact ⟨rfl, rfl, rfl, rfl, rfl⟩

theorem storeNext_same (v : Byte) (ea : EAddr) (s : State) : SameOutside s (storeNext v ea s) := by
  constructor <;> simp [storeNext]

/-- An instruction that completes leaves program memory, the platform, the inputs and the test interface alone. -/
theorem exec_same {i : Instr} {s t : State} (h : exec i s = .next t) : SameOutside s t := by
  rcases exec_next h with ⟨op, form, -, -, rfl⟩ | ⟨reg, ea, -, -, -, rfl⟩ | ⟨addr, data, -, rfl⟩ | ⟨c, tg, -, -, rfl⟩ |
    ⟨tg, -, -, -, rfl⟩ | ⟨tg, -, -, rfl⟩ | ⟨-, v, u, hp, rfl⟩ | ⟨-, hr⟩ | ⟨-, -, -, rfl⟩ | ⟨-, v, u, hp, rfl⟩ | ⟨-, hs⟩ |
    ⟨-, hh⟩ | ⟨-, rfl⟩ | ⟨on, -, -, rfl⟩ | ⟨divn, -, -, rfl⟩
  · obtain ⟨h1, h2, h3, h4, h5⟩ := s.updateForm_same form
    exact ⟨h1, h2, h3, h4, h5⟩
  · exact storeNext_same _ _ _
  · exact storeNext_same _ _ _
  · exact ⟨rfl, rfl, rfl, rfl, rfl⟩
  · exact ⟨rfl, rfl, rfl, rfl, rfl⟩
  · exact ⟨rfl, rfl, rfl, rfl, rfl⟩
  · obtain ⟨-, rest, -, rfl⟩ := State.pop_eq_some.1 hp
    exact ⟨rfl, rfl, rfl, rfl, rfl⟩
  · unfold State.interruptReturn at hr
    split at hr
    · cases hr
    · next v u hp =>
      obtain ⟨-, rest, -, rfl⟩ := State.pop_eq_some.1 hp
      simp only [Option.some.injEq] at hr
      subst hr
      exact ⟨rfl, rfl, rfl, rfl, rfl⟩
  · exact ⟨rfl, rfl, rfl, rfl, rfl⟩
  · obtain ⟨-, rest, -, rfl⟩ := State.pop_eq_some.1 hp
    exact ⟨rfl, rfl, rfl, rfl, rfl⟩
  · simp only [execSflag, Host.Outcome.next.injEq] at hs
    subst hs
    exact ⟨rfl, rfl, rfl, rfl, rfl⟩
  · unfold execHalt at hh
    split at hh
    · simp only [Host.Outcome.next.injEq] at hh
      subst hh
      exact ⟨rfl, rfl, rfl, rfl, rfl⟩
    · split at hh <;>
      · simp only [Host.Outcome.next.injEq] at hh
        subst hh
        exact ⟨rfl, rfl, rfl, rfl, rfl⟩
  · exact ⟨rfl, rfl, rfl, rfl, rfl⟩
  · exact ⟨rfl, rfl, rfl, rfl, rfl⟩
  · exact ⟨rfl, rfl, rfl, rfl, rfl⟩

end Sys2Proof.Machine
end

