-- ==== Sys2Proof/Laws/Step.lean ====
section
/-! SUPPORT. Everything a step can do around the execution of an instruction, said once: taking the input, the boundary, and
the answer of the step. -/

namespace Sys2Proof.Machine

/-! ### Taking the input -/

/-- The writes of other bus masters change data memory alone. -/
theorem State.foldl_busWrite (ws : List (Word × Byte)) (s : State) :
    ws.foldl State.busWrite s = { s with dm := (ws.foldl State.busWrite s).dm } := by
  induction ws generalizing s with
  | nil => rfl
  | cons w ws ih =>
    rw [List.foldl_cons, ih]
    unfold State.busWrite
    split <;> rfl

/-- Only shared locations take the writes of other bus masters (20_memory.md R92). -/
theorem State.byteAt_foldl_busWrite (ws : List (Word × Byte)) (s : State) {a : Word} (h : s.kindAt a ≠ .shared) :
    (ws.foldl State.busWrite s).byteAt a = s.byteAt a := by
  induction ws generalizing s with
  | nil => rfl
  | cons w ws ih =>
    have hk : (s.busWrite w).kindAt a = s.kindAt a := by
      unfold State.busWrite
      split <;> rfl
    rw [List.foldl_cons, ih _ (by rw [hk]; exact h)]
    unfold State.busWrite
    split
    · next hw =>
      rw [State.byteAt_setByte, if_neg]
      rintro rfl
      exact h hw
    all_goals rfl

theorem State.wf_foldl_busWrite (ws : List (Word × Byte)) {s : State} (h : Memory.wf s.dm = true) :
    Memory.wf (ws.foldl State.busWrite s).dm = true := by
  induction ws generalizing s with
  | nil => exact h
  | cons w ws ih => exact ih (State.wf_busWrite w h)

/-- Taking the input changes the schedule, data memory, the test interface and the number of values drawn; nothing is drawn
and the test shift register is left alone unless `TestEn` rises (log 14). -/
theorem State.takeInput_eq (s : State) :
    ∃ d : List Host.Cell, d = (s.nextInput.busWrites.foldl State.busWrite { s with inputs := s.inputs.tail }).dm ∧
      s.takeInput = State.latchTest { s with inputs := s.inputs.tail, dm := d } s.nextInput.testEn := by
  refine ⟨_, rfl, ?_⟩
  exact congrArg (fun u => State.latchTest u s.nextInput.testEn)
    (State.foldl_busWrite s.nextInput.busWrites { s with inputs := s.inputs.tail })

theorem State.takeInput_dm (s : State) :
    s.takeInput.dm = (s.nextInput.busWrites.foldl State.busWrite { s with inputs := s.inputs.tail }).dm := by
  obtain ⟨d, hd, h⟩ := s.takeInput_eq
  rw [h, State.latchTest_dm, hd]

theorem State.wf_takeInput {s : State} (h : Memory.wf s.dm = true) : Memory.wf s.takeInput.dm = true := by
  rw [State.takeInput_dm]
  exact State.wf_foldl_busWrite _ h

theorem State.byteAt_takeInput {s : State} {a : Word} (h : s.kindAt a ≠ .shared) :
    s.takeInput.byteAt a = s.byteAt a :=
  (State.byteAt_congr s.takeInput_dm a).trans
    (State.byteAt_foldl_busWrite s.nextInput.busWrites { s with inputs := s.inputs.tail } h)

/-- In Normal mode taking the input draws nothing and leaves the test shift register alone. -/
theorem State.takeInput_normal {s : State} (h : s.nextInput.testEn = false) :
    ∃ d : List Host.Cell, d = s.takeInput.dm ∧
      s.takeInput = { s with inputs := s.inputs.tail, dm := d, testEn := false } := by
  obtain ⟨d, -, hs⟩ := s.takeInput_eq
  refine ⟨d, ?_, ?_⟩
  · rw [hs, State.latchTest_dm]
  · rw [hs, h]
    rfl

section
variable (s : State)

@[simp] theorem State.takeInput_regs : s.takeInput.regs = s.regs := by
  obtain ⟨d, -, h⟩ := s.takeInput_eq
  rw [h, State.latchTest_regs]
@[simp] theorem State.takeInput_pc : s.takeInput.pc = s.pc := by
  obtain ⟨d, -, h⟩ := s.takeInput_eq
  rw [h, State.latchTest_pc]
@[simp] theorem State.takeInput_flags : s.takeInput.flags = s.flags := by
  obtain ⟨d, -, h⟩ := s.takeInput_eq
  rw [h, State.latchTest_flags]
@[simp] theorem State.takeInput_levels : s.takeInput.levels = s.levels := by
  obtain ⟨d, -, h⟩ := s.takeInput_eq
  rw [h, State.latchTest_levels]
@[simp] theorem State.takeInput_cnt : s.takeInput.cnt = s.cnt := by
  obtain ⟨d, -, h⟩ := s.takeInput_eq
  rw [h, State.latchTest_cnt]
@[simp] theorem State.takeInput_freqOut : s.takeInput.freqOut = s.freqOut := by
  obtain ⟨d, -, h⟩ := s.takeInput_eq
  rw [h, State.latchTest_freqOut]
@[simp] theorem State.takeInput_halted : s.takeInput.halted = s.halted := by
  obtain ⟨d, -, h⟩ := s.takeInput_eq
  rw [h, State.latchTest_halted]
@[simp] theorem State.takeInput_romMode : s.takeInput.romMode = s.romMode := by
  obtain ⟨d, -, h⟩ := s.takeInput_eq
  rw [h, State.latchTest_romMode]
@[simp] theorem State.takeInput_statCtl : s.takeInput.statCtl = s.statCtl := by
  obtain ⟨d, -, h⟩ := s.takeInput_eq
  rw [h, State.latchTest_statCtl]
@[simp] theorem State.takeInput_mulShadow : s.takeInput.mulShadow = s.mulShadow := by
  obtain ⟨d, -, h⟩ := s.takeInput_eq
  rw [h, State.latchTest_mulShadow]
@[simp] theorem State.takeInput_pm : s.takeInput.pm = s.pm := by
  obtain ⟨d, -, h⟩ := s.takeInput_eq
  rw [h, State.latchTest_pm]
@[simp] theorem State.takeInput_testEn : s.takeInput.testEn = s.nextInput.testEn := by
  obtain ⟨d, -, h⟩ := s.takeInput_eq
  rw [h, State.latchTest]
  split <;> simp_all
@[simp] theorem State.takeInput_platform : s.takeInput.platform = s.platform := by
  obtain ⟨d, -, h⟩ := s.takeInput_eq
  rw [h, State.latchTest_platform]
@[simp] theorem State.takeInput_inputs : s.takeInput.inputs = s.inputs.tail := by
  obtain ⟨d, -, h⟩ := s.takeInput_eq
  rw [h, State.latchTest_inputs]
@[simp] theorem State.takeInput_deviceLog : s.takeInput.deviceLog = s.deviceLog := by
  obtain ⟨d, -, h⟩ := s.takeInput_eq
  rw [h, State.latchTest_deviceLog]
@[simp] theorem State.takeInput_haltHeld : s.takeInput.haltHeld = s.haltHeld := by
  obtain ⟨d, -, h⟩ := s.takeInput_eq
  rw [h, State.latchTest_haltHeld]

/-! ### The boundary -/

@[simp] theorem State.atBoundary_pc : s.atBoundary.pc = s.pc := s.takeInput_pc
@[simp] theorem State.atBoundary_flags : s.atBoundary.flags = s.flags := s.takeInput_flags
@[simp] theorem State.atBoundary_levels : s.atBoundary.levels = s.levels := s.takeInput_levels
@[simp] theorem State.atBoundary_cnt : s.atBoundary.cnt = s.cnt := s.takeInput_cnt
@[simp] theorem State.atBoundary_freqOut : s.atBoundary.freqOut = s.freqOut := s.takeInput_freqOut
@[simp] theorem State.atBoundary_halted : s.atBoundary.halted = s.halted := s.takeInput_halted
@[simp] theorem State.atBoundary_romMode : s.atBoundary.romMode = s.romMode := s.takeInput_romMode
@[simp] theorem State.atBoundary_mulShadow : s.atBoundary.mulShadow = s.mulShadow := s.takeInput_mulShadow
@[simp] theorem State.atBoundary_dm : s.atBoundary.dm = s.takeInput.dm := rfl
@[simp] theorem State.atBoundary_pm : s.atBoundary.pm = s.pm := s.takeInput_pm
@[simp] theorem State.atBoundary_testReg : s.atBoundary.testReg = s.takeInput.testReg := rfl
@[simp] theorem State.atBoundary_testEn : s.atBoundary.testEn = s.nextInput.testEn := s.takeInput_testEn
@[simp] theorem State.atBoundary_platform : s.atBoundary.platform = s.platform := s.takeInput_platform
@[simp] theorem State.atBoundary_inputs : s.atBoundary.inputs = s.inputs.tail := s.takeInput_inputs
@[simp] theorem State.atBoundary_deviceLog : s.atBoundary.deviceLog = s.deviceLog := s.takeInput_deviceLog
@[simp] theorem State.atBoundary_draws : s.atBoundary.draws = s.takeInput.draws := rfl

end

/-! ### What the parts of a step answer -/

/-- Loading the test shift register matters in Test mode only. -/
theorem State.capture_normal {s : State} (h : s.testEn = false) : s.capture = s := by
  simp [State.capture, h]

theorem captureOutcome_normal {r : Host.Outcome State Fault Refusal} (h : ∀ t, r = .next t → t.testEn = false) :
    captureOutcome r = r := by
  cases r with
  | next t => exact congrArg Host.Outcome.next (State.capture_normal (h t rfl))
  | fault _ => rfl
  | refused _ => rfl

/-- In Normal mode nothing is added to the answer of an instruction. -/
theorem captureOutcome_exec {i : Instr} {s : State} (h : s.testEn = false) : captureOutcome (exec i s) = exec i s :=
  captureOutcome_normal fun _ ht => (exec_same ht).testEn.trans h

theorem captureOutcome_eq_next {r : Host.Outcome State Fault Refusal} {t : State} (h : captureOutcome r = .next t) :
    ∃ u, r = .next u ∧ t = u.capture := by
  cases r with
  | next u => exact ⟨u, rfl, (Host.Outcome.next.inj h).symm⟩
  | fault _ => cases h
  | refused _ => cases h

/-- Everything an execute cycle of ROM mode can do. -/
theorem State.romCycle_next {s t : State} (h : s.romCycle = .next t) :
    s.testEn = true ∧ ∃ w, Memory.lookup s.pm s.pc.toNat = some w ∧
      t = s.finish { s with testReg := w, romMode := decide (decode w ≠ some (.pmd false)) } s.nextPc none := by
  unfold State.romCycle at h
  split at h
  · next ht =>
    split at h
    · cases h
    · next w hw => exact ⟨ht, w, hw, (Host.Outcome.next.inj h).symm⟩
  · cases h

/-- Everything the execution of the instruction at the pc can do. -/
theorem State.runInstruction_next {s t : State} (h : s.runInstruction = .next t) :
    ∃ w i u, s.instructionWord = some w ∧ decode w = some i ∧ exec i s = .next u ∧ t = u.capture := by
  unfold State.runInstruction at h
  split at h
  · cases h
  · next w hw =>
    split at h
    · cases h
    · next i hi =>
      obtain ⟨u, hu, rfl⟩ := captureOutcome_eq_next h
      exact ⟨w, i, u, hw, hi, hu, rfl⟩

/-- Everything a boundary can do. -/
theorem State.runBoundary_next {s t : State} (h : s.runBoundary = .next t) :
    s.staysHalted = true ∧ t = s.stayHalted ∨
      s.staysHalted = false ∧
        ((∃ k, s.leaveHalt.pending = some k ∧ t = (s.leaveHalt.interruptEntry k).capture) ∨
          s.leaveHalt.pending = none ∧
            (s.leaveHalt.romMode = true ∧ s.leaveHalt.romCycle = .next t ∨
              s.leaveHalt.romMode = false ∧ s.leaveHalt.runInstruction = .next t)) := by
  unfold State.runBoundary at h
  split at h
  · next hs => exact .inl ⟨hs, (Host.Outcome.next.inj h).symm⟩
  · next hs =>
    refine .inr ⟨by simpa using hs, ?_⟩
    split at h
    · next k hk => exact .inl ⟨k, hk, (Host.Outcome.next.inj h).symm⟩
    · next hk =>
      refine .inr ⟨hk, ?_⟩
      split at h
      · next hr => exact .inl ⟨hr, h⟩
      · next hr => exact .inr ⟨by simpa using hr, h⟩

/-- A step that no reset and no shift cycle takes is the boundary. -/
theorem step_runs {s : State} (h : s.RunsThisStep) : step s = s.atBoundary.runBoundary := by
  obtain ⟨h1, h2⟩ := h
  unfold step
  rcases h2 with h2 | h2 <;> simp [h1, h2, State.atBoundary]

/-- Everything a step can do. -/
theorem step_next {s t : State} (h : step s = .next t) :
    s.nextInput.reset = true ∧ t = s.takeInput.resetEvent ∨
      s.nextInput.testEn = true ∧ s.nextInput.testShift = true ∧ t = s.takeInput.shiftTest s.nextInput.testIn ∨
      s.RunsThisStep ∧ s.atBoundary.runBoundary = .next t := by
  unfold step at h
  split at h
  · next hr => exact .inl ⟨hr, (Host.Outcome.next.inj h).symm⟩
  · next hr =>
    split at h
    · next ht =>
      simp only [Bool.and_eq_true] at ht
      exact .inr (.inl ⟨ht.1, ht.2, (Host.Outcome.next.inj h).symm⟩)
    · next ht =>
      refine .inr (.inr ⟨⟨by simpa using hr, ?_⟩, h⟩)
      revert ht
      cases s.nextInput.testEn <;> cases s.nextInput.testShift <;> simp

end Sys2Proof.Machine
end

