-- ==== Sys2Proof/Tests/Slice0.lean ====
section
/-! SUPPORT. Tests: the well-formedness checks on ill-formed terms, a word of every constructor written out from the spec's
encoding table, single instructions from the spec's vectors (95_test_vectors.md, 96_test_vectors_derived.md), single steps,
and a witness for the hypotheses of each statement. -/

namespace Sys2Proof.Tests

open Sys2Proof.Machine

/-! ## Well-formedness -/

theorem test_wf_freq_reserved : (Instr.freq 0b0001#4).wellFormed = false := by decide

theorem test_wf_freq_div2 : (Instr.freq 0b1000#4).wellFormed = true := by decide

theorem test_wf_postinc_low_byte : (Instr.moveToPostinc .i1l .i1 1#7).wellFormed = false := by decide

theorem test_wf_postinc_high_byte : (Instr.moveToPostinc .i1h .i1 1#7).wellFormed = false := by decide

theorem test_wf_predec_low_byte : (Instr.moveToPredec .i3l .i3 1#7).wellFormed = false := by decide

theorem test_wf_predec_high_byte : (Instr.moveToPredec .i3h .i3 1#7).wellFormed = false := by decide

theorem test_wf_other_pair : (Instr.moveToPredec .i3h .i2 1#7).wellFormed = true := by decide

/-! ## Words

For every constructor a word written out from its row of spec/opcode_table.json, the fields at values that tell them apart: the
decoder reads it, and the encoder gives it back. -/

/-- The decoder reads the word as the instruction, and the encoder writes the instruction as the word. -/
def reads (l : List (IWord × Instr)) : Bool := l.all fun p => decide (decode p.1 = some p.2) && encode p.2 == p.1

theorem test_word_add : reads
    [(0b0001001100110000011010#22, .addDirect .r2 0xE5),
     (0b0110001100111111010010#22, .addIndexed .a .i0 0xD2),
     (0b0100101100001000100110#22, .addPostinc .i1l .i1 0x26),
     (0b0100101100010111010011#22, .addPredec .i2h .i1 0x53),
     (0b0001101100100011111110#22, .addR3 .ipl .i2),
     (0b0011101100101110100111#22, .addImm .r3 0x58),
     (0b0011001100000010010100#22, .addReg3 .i2l .iph .i0l)] = true := by decide

theorem test_word_addc : reads
    [(0b0001001101000100011010#22, .addcDirect .i0h 0xE5),
     (0b0110001101010011010010#22, .addcIndexed .i2l .i0 0xD2),
     (0b0100001101011100100110#22, .addcPostinc .i3h .i0 0x26),
     (0b0100101101101011010011#22, .addcPredec .stat .i1 0x53),
     (0b0001101101110111111101#22, .addcR3 .r1 .i1),
     (0b0011101101000010100111#22, .addcImm .i0l 0x58),
     (0b0011001101000111001011#22, .addcReg3 .r3 .r2 .i0h)] = true := by decide

theorem test_word_and : reads
    [(0b0001000010011000011010#22, .andDirect .i3l 0xE5),
     (0b0111100010100111010010#22, .andIndexed .iph .i3 0xD2),
     (0b0100000010110000100110#22, .andPostinc .r2 .i0 0x26),
     (0b0100000010111111010011#22, .andPredec .a .i0 0x53),
     (0b0001100010001011111101#22, .andR3 .i1l .i1),
     (0b0011100010010110100111#22, .andImm .i2h 0x58),
     (0b0011000010001011110010#22, .andReg3 .i1l .a .i1l)] = true := by decide

theorem test_word_cmp : reads
    [(0b0001000001101100011010#22, .cmpDirect .r3 0xE5),
     (0b0111100001111011010010#22, .cmpIndexed .r0 .i3 0xD2),
     (0b0101100001000100100110#22, .cmpPostinc .i0h .i3 0x26),
     (0b0100000001010011010011#22, .cmpPredec .i2l .i0 0x53),
     (0b0001100001011111111100#22, .cmpR3 .i3h .i0),
     (0b0011100001101010100111#22, .cmpImm .stat 0x58),
     (0b0011000001001100100011#22, .cmpRegs .i1h .i1l)] = true := by decide

theorem test_word_cmpa : reads
    [(0b0001000000000000011010#22, .cmpaDirect .i0l 0xE5),
     (0b0111000000001111010010#22, .cmpaIndexed .i1h .i2 0xD2),
     (0b0101100000011000100110#22, .cmpaPostinc .i3l .i3 0x26),
     (0b0101100000100111010011#22, .cmpaPredec .iph .i3 0x53),
     (0b0001100000110011111100#22, .cmpaR3 .r2 .i0),
     (0b0011100000111110100111#22, .cmpaImm .a 0x58),
     (0b0011000000010001010100#22, .cmpaRegs .i2l .i2h)] = true := by decide

theorem test_word_cmvd : reads
    [(0b0001010010010100011010#22, .cmvdDirect .i2h 0xE5),
     (0b0111010010100011010010#22, .cmvdIndexed .ipl .i2 0xD2),
     (0b0101010010101100100110#22, .cmvdPostinc .r3 .i2 0x26),
     (0b0101110010111011010011#22, .cmvdPredec .r0 .i3 0x53),
     (0b0001110010000111111111#22, .cmvdR3 .i0h .i3),
     (0b0011010010111100110110#22, .cmvdReg2 .i3l .i1h)] = true := by decide

theorem test_word_cmvs : reads
    [(0b0001010011011100011010#22, .cmvsDirect .i3h 0xE5),
     (0b0110110011101011010010#22, .cmvsIndexed .stat .i1 0xD2),
     (0b0100110011110100100110#22, .cmvsPostinc .r1 .i1 0x26),
     (0b0101010011000011010011#22, .cmvsPredec .i0l .i2 0x53),
     (0b0001110011001111111110#22, .cmvsR3 .i1h .i2),
     (0b0011010011111100011100#22, .cmvsReg2 .r2 .i0h)] = true := by decide

theorem test_word_cpl1 : reads
    [(0b0001011000100100011010#22, .cpl1Direct .iph 0xE5),
     (0b0110011000110011010010#22, .cpl1Indexed .r2 .i0 0xD2),
     (0b0100011000111100100110#22, .cpl1Postinc .a .i0 0x26),
     (0b0100111000001011010011#22, .cpl1Predec .i1l .i1 0x53),
     (0b0001111000010111111101#22, .cpl1R3 .i2h .i1),
     (0b0011011000111111110010#22, .cpl1Reg2 .i1l .a)] = true := by decide

theorem test_word_cpl2 : reads
    [(0b0001011001101100011010#22, .cpl2Direct .r3 0xE5),
     (0b0111111001111011010010#22, .cpl2Indexed .r0 .i3 0xD2),
     (0b0101111001000100100110#22, .cpl2Postinc .i0h .i3 0x26),
     (0b0100011001010011010011#22, .cpl2Predec .i2l .i0 0x53),
     (0b0001111001011111111100#22, .cpl2R3 .i3h .i0),
     (0b0011011001111111011000#22, .cpl2Reg2 .ipl .r1)] = true := by decide

theorem test_word_cpl2c : reads
    [(0b0001011100110100011010#22, .cpl2cDirect .r1 0xE5),
     (0b0111011100000011010010#22, .cpl2cIndexed .i0l .i2 0xD2),
     (0b0101011100001100100110#22, .cpl2cPostinc .i1h .i2 0x26),
     (0b0101111100011011010011#22, .cpl2cPredec .i3l .i3 0x53),
     (0b0001111100100111111111#22, .cpl2cR3 .iph .i3),
     (0b0011011100111110111110#22, .cpl2cReg2 .r0 .r3)] = true := by decide

theorem test_word_dec : reads
    [(0b0001011011111100011010#22, .decDirect .a 0xE5),
     (0b0110111011001011010010#22, .decIndexed .i1l .i1 0xD2),
     (0b0100111011010100100110#22, .decPostinc .i2h .i1 0x26),
     (0b0101011011100011010011#22, .decPredec .ipl .i2 0x53),
     (0b0001111011101111111110#22, .decR3 .r3 .i2),
     (0b0011011011111110010100#22, .decReg2 .i2l .iph)] = true := by decide

theorem test_word_decc : reads
    [(0b0001011111000100011010#22, .deccDirect .i0h 0xE5),
     (0b0110011111010011010010#22, .deccIndexed .i2l .i0 0xD2),
     (0b0100011111011100100110#22, .deccPostinc .i3h .i0 0x26),
     (0b0100111111101011010011#22, .deccPredec .stat .i1 0x53),
     (0b0001111111110111111101#22, .deccR3 .r1 .i1),
     (0b0011011111111101111010#22, .deccReg2 .stat .i3h)] = true := by decide

theorem test_word_inc : reads
    [(0b0001010001001100011010#22, .incDirect .i1h 0xE5),
     (0b0111110001011011010010#22, .incIndexed .i3l .i3 0xD2),
     (0b0101110001100100100110#22, .incPostinc .iph .i3 0x26),
     (0b0100010001110011010011#22, .incPredec .r2 .i0 0x53),
     (0b0001110001111111111100#22, .incR3 .a .i0),
     (0b0011010001111101010000#22, .incReg2 .i0l .i2h)] = true := by decide

theorem test_word_incc : reads
    [(0b0001010101010100011010#22, .inccDirect .i2h 0xE5),
     (0b0111010101100011010010#22, .inccIndexed .ipl .i2 0xD2),
     (0b0101010101101100100110#22, .inccPostinc .r3 .i2 0x26),
     (0b0101110101111011010011#22, .inccPredec .r0 .i3 0x53),
     (0b0001110101000111111111#22, .inccR3 .i0h .i3),
     (0b0011010101111100110110#22, .inccReg2 .i3l .i1h)] = true := by decide

theorem test_word_move : reads
    [(0b0001001010011100011010#22, .moveDirect .i3h 0xE5),
     (0b0110101010101011010010#22, .moveIndexed .stat .i1 0xD2),
     (0b0100101010110100100110#22, .movePostinc .r1 .i1 0x26),
     (0b0101001010000011010011#22, .movePredec .i0l .i2 0x53),
     (0b0001101010001111111110#22, .moveR3 .i1h .i2),
     (0b0011101010011010100111#22, .moveImm .i3l 0x58),
     (0b0011001010111101101101#22, .moveReg2 .r1 .i3l),
     (0b0000111011000111111111#22, .moveToR3 .i0h .i3),
     (0b0000110100010000100110#22, .moveToPostinc .i2l .i0 0x26),
     (0b0000110100011111010011#22, .moveToPredec .i3h .i0 0x53),
     (0b0000101101101011010010#22, .moveToIndexed .stat .i1 0xD2),
     (0b0000011011110100011010#22, .moveToDirect .r1 0xE5),
     (0b0000001010011100011010#22, .moveToDirectImm 0xE5 0x58)] = true := by decide

theorem test_word_mul : reads
    [(0b0001001110110000011010#22, .mulDirect .r2 0xE5),
     (0b0110001110111111010010#22, .mulIndexed .a .i0 0xD2),
     (0b0100101110001000100110#22, .mulPostinc .i1l .i1 0x26),
     (0b0100101110010111010011#22, .mulPredec .i2h .i1 0x53),
     (0b0001101110100011111110#22, .mulR3 .ipl .i2),
     (0b0011101110101110100111#22, .mulImm .r3 0x58),
     (0b0011001110000010010100#22, .mulReg3 .i2l .iph .i0l)] = true := by decide

theorem test_word_mula : reads
    [(0b0001000110000100011010#22, .mulaDirect .i0h 0xE5),
     (0b0110000110010011010010#22, .mulaIndexed .i2l .i0 0xD2),
     (0b0100000110011100100110#22, .mulaPostinc .i3h .i0 0x26),
     (0b0100100110101011010011#22, .mulaPredec .stat .i1 0x53),
     (0b0001100110110111111101#22, .mulaR3 .r1 .i1),
     (0b0011100110000010100111#22, .mulaImm .i0l 0x58),
     (0b0011000110000111001011#22, .mulaReg3 .r3 .r2 .i0h)] = true := by decide

theorem test_word_or : reads
    [(0b0001001011011000011010#22, .orDirect .i3l 0xE5),
     (0b0111101011100111010010#22, .orIndexed .iph .i3 0xD2),
     (0b0100001011110000100110#22, .orPostinc .r2 .i0 0x26),
     (0b0100001011111111010011#22, .orPredec .a .i0 0x53),
     (0b0001101011001011111101#22, .orR3 .i1l .i1),
     (0b0011101011010110100111#22, .orImm .i2h 0x58),
     (0b0011001011001011110010#22, .orReg3 .i1l .a .i1l)] = true := by decide

theorem test_word_shl : reads
    [(0b0001011010101100011010#22, .shlDirect .r3 0xE5),
     (0b0111111010111011010010#22, .shlIndexed .r0 .i3 0xD2),
     (0b0101111010000100100110#22, .shlPostinc .i0h .i3 0x26),
     (0b0100011010010011010011#22, .shlPredec .i2l .i0 0x53),
     (0b0001111010011111111100#22, .shlR3 .i3h .i0),
     (0b0011011010111111011000#22, .shlReg2 .ipl .r1)] = true := by decide

theorem test_word_shlc : reads
    [(0b0001011110110100011010#22, .shlcDirect .r1 0xE5),
     (0b0111011110000011010010#22, .shlcIndexed .i0l .i2 0xD2),
     (0b0101011110001100100110#22, .shlcPostinc .i1h .i2 0x26),
     (0b0101111110011011010011#22, .shlcPredec .i3l .i3 0x53),
     (0b0001111110100111111111#22, .shlcR3 .iph .i3),
     (0b0011011110111110111110#22, .shlcReg2 .r0 .r3)] = true := by decide

theorem test_word_shr : reads
    [(0b0001010110111100011010#22, .shrDirect .a 0xE5),
     (0b0110110110001011010010#22, .shrIndexed .i1l .i1 0xD2),
     (0b0100110110010100100110#22, .shrPostinc .i2h .i1 0x26),
     (0b0101010110100011010011#22, .shrPredec .ipl .i2 0x53),
     (0b0001110110101111111110#22, .shrR3 .r3 .i2),
     (0b0011010110111110010100#22, .shrReg2 .i2l .iph)] = true := by decide

theorem test_word_shra : reads
    [(0b0001010000000100011010#22, .shraDirect .i0h 0xE5),
     (0b0110010000010011010010#22, .shraIndexed .i2l .i0 0xD2),
     (0b0100010000011100100110#22, .shraPostinc .i3h .i0 0x26),
     (0b0100110000101011010011#22, .shraPredec .stat .i1 0x53),
     (0b0001110000110111111101#22, .shraR3 .r1 .i1),
     (0b0011010000111101111010#22, .shraReg2 .stat .i3h)] = true := by decide

theorem test_word_shrc : reads
    [(0b0001010100001100011010#22, .shrcDirect .i1h 0xE5),
     (0b0111110100011011010010#22, .shrcIndexed .i3l .i3 0xD2),
     (0b0101110100100100100110#22, .shrcPostinc .iph .i3 0x26),
     (0b0100010100110011010011#22, .shrcPredec .r2 .i0 0x53),
     (0b0001110100111111111100#22, .shrcR3 .a .i0),
     (0b0011010100111101010000#22, .shrcReg2 .i0l .i2h)] = true := by decide

theorem test_word_subd : reads
    [(0b0001000100010100011010#22, .subdDirect .i2h 0xE5),
     (0b0111000100100011010010#22, .subdIndexed .ipl .i2 0xD2),
     (0b0101000100101100100110#22, .subdPostinc .r3 .i2 0x26),
     (0b0101100100111011010011#22, .subdPredec .r0 .i3 0x53),
     (0b0001100100000111111111#22, .subdR3 .i0h .i3),
     (0b0011100100010010100111#22, .subdImm .i2l 0x58),
     (0b0011000100010110000111#22, .subdReg3 .i3h .ipl .i2h)] = true := by decide

theorem test_word_subdc : reads
    [(0b0001000101101000011010#22, .subdcDirect .stat 0xE5),
     (0b0110100101110111010010#22, .subdcIndexed .r1 .i1 0xD2),
     (0b0101000101000000100110#22, .subdcPostinc .i0l .i2 0x26),
     (0b0101000101001111010011#22, .subdcPredec .i1h .i2 0x53),
     (0b0001100101011011111111#22, .subdcR3 .i3l .i3),
     (0b0011100101100110100111#22, .subdcImm .iph 0x58),
     (0b0011000101011010111110#22, .subdcReg3 .r0 .r3 .i3l)] = true := by decide

theorem test_word_subs : reads
    [(0b0001000011111100011010#22, .subsDirect .a 0xE5),
     (0b0110100011001011010010#22, .subsIndexed .i1l .i1 0xD2),
     (0b0100100011010100100110#22, .subsPostinc .i2h .i1 0x26),
     (0b0101000011100011010011#22, .subsPredec .ipl .i2 0x53),
     (0b0001100011101111111110#22, .subsR3 .r3 .i2),
     (0b0011100011111010100111#22, .subsImm .r0 0x58),
     (0b0011000011011111100101#22, .subsReg3 .i2h .r0 .i3h)] = true := by decide

theorem test_word_subsc : reads
    [(0b0001000111010000011010#22, .subscDirect .i2l 0xE5),
     (0b0110000111011111010010#22, .subscIndexed .i3h .i0 0xD2),
     (0b0100100111101000100110#22, .subscPostinc .stat .i1 0x26),
     (0b0100100111110111010011#22, .subscPredec .r1 .i1 0x53),
     (0b0001100111000011111110#22, .subscR3 .i0l .i2),
     (0b0011100111001110100111#22, .subscImm .i1h 0x58),
     (0b0011000111100000011100#22, .subscReg3 .r2 .i0h .ipl)] = true := by decide

theorem test_word_xor : reads
    [(0b0001001000100100011010#22, .xorDirect .iph 0xE5),
     (0b0110001000110011010010#22, .xorIndexed .r2 .i0 0xD2),
     (0b0100001000111100100110#22, .xorPostinc .a .i0 0x26),
     (0b0100101000001011010011#22, .xorPredec .i1l .i1 0x53),
     (0b0001101000010111111101#22, .xorR3 .i2h .i1),
     (0b0011101000100010100111#22, .xorImm .ipl 0x58),
     (0b0011001000100101000011#22, .xorReg3 .i1h .i2l .iph)] = true := by decide

theorem test_word_tstb : reads
    [(0b0011101111111010100111#22, .tstbImm .r0 0x58)] = true := by decide

theorem test_word_jcc : reads
    [(0b1100001010011100110101#22, .jccAbs 0x58CA),
     (0b1000001111111111111111#22, .jccIp)] = true := by decide

theorem test_word_jvc : reads
    [(0b1100011010011100110101#22, .jvcAbs 0x58CA),
     (0b1000011111111111111111#22, .jvcIp)] = true := by decide

theorem test_word_jzc : reads
    [(0b1100101010011100110101#22, .jzcAbs 0x58CA),
     (0b1000101111111111111111#22, .jzcIp)] = true := by decide

theorem test_word_jump : reads
    [(0b1100111010011100110101#22, .jumpAbs 0x58CA),
     (0b1000111111111111111111#22, .jumpIp)] = true := by decide

theorem test_word_jcs : reads
    [(0b1101001010011100110101#22, .jcsAbs 0x58CA),
     (0b1001001111111111111111#22, .jcsIp)] = true := by decide

theorem test_word_jvs : reads
    [(0b1101011010011100110101#22, .jvsAbs 0x58CA),
     (0b1001011111111111111111#22, .jvsIp)] = true := by decide

theorem test_word_jzs : reads
    [(0b1101101010011100110101#22, .jzsAbs 0x58CA),
     (0b1001101111111111111111#22, .jzsIp)] = true := by decide

theorem test_word_jev : reads
    [(0b1101111010011100110101#22, .jevAbs 0x58CA),
     (0b1001111111111111111111#22, .jevIp)] = true := by decide

theorem test_word_call : reads
    [(0b1110011010011100110101#22, .callAbs 0x58CA),
     (0b1010011111111111111111#22, .callIp)] = true := by decide

theorem test_word_calls : reads
    [(0b1110101010011100110101#22, .callsAbs 0x58CA),
     (0b1010101111111111111111#22, .callsIp)] = true := by decide

theorem test_word_special : reads
    [(0b1111110011111111111111#22, .ret),
     (0b1111110001111111111111#22, .reti),
     (0b1111101011111111111111#22, .pop),
     (0b1011011111111111111111#22, .push),
     (0b1111111111111111111111#22, .nop),
     (0b0010111101111111111111#22, .halt),
     (0b0010110111111111111111#22, .sflag),
     (0b0010111110111111111111#22, .pmd true),
     (0b0010111011111111111110#22, .freq 0b1110),
     (0b0010111110111011111111#22, .pmd false)] = true := by decide

/-- 30_encoding.md R120 (92 D7): the ignored fields may hold anything. -/
theorem test_word_ignored_bits :
    decode 0b0011011010000011011101#22 = some (.shlReg2 .r1 .r1) ∧
      decode 0b0011000001111011000101#22 = some (.cmpRegs .r0 .r2) := by decide

/-- Words of 96_test_vectors_derived.md section 3.1 that are undefined: a fixed bit cleared, an unassigned code. -/
theorem test_word_undefined :
    [0x3F3FFE#22, 0x3FFFFE#22, 0x2DFFFE#22, 0x0B7FFE#22, 0x0BEDFF#22, 0x0BBFE0#22, 0x04F000#22, 0x0C9000#22, 0x0E9000#22,
      0x0F0000#22, 0x000000#22 ||| 0x010000#22].map decode = List.replicate 11 none := by decide

/-- The host's numbering: a number of 2^22 or more is no instruction. -/
theorem test_table_word :
    decodeTableWord 22 0x39F5AB = some (.callAbs 0x0A54) ∧ decodeTableWord 22 0x400000 = none := by decide

/-! ## Single instructions

Each row of the comment is a row of 95_test_vectors.md or 96_test_vectors_derived.md. -/

/-- The reset state with some registers and C set. -/
def start (rs : List (Reg × Byte)) (c : Bool) : State :=
  { State.reset with regs := rs.foldl (fun r p => r.set p.1 p.2) Regs.reset, flags := ⟨c, false, false⟩ }

/-- The state after the instruction of a word. -/
def run (w : IWord) (s : State) : Option State :=
  match decode w with
  | none => none
  | some i =>
    match exec i s with
    | .next t => some t
    | .fault _ => none
    | .refused _ => none

/-- A register, `a`, and C, V, Z after the instruction of a word. -/
def after (w : IWord) (s : State) (r : Reg) : Option (Byte × Byte × Flags) :=
  (run w s).map fun t => (t.reg r, t.reg .a, t.flags)

/-- A register, `a` and Z after the instruction of a word. -/
def afterZ (w : IWord) (s : State) (r : Reg) : Option (Byte × Byte × Bool) :=
  (run w s).map fun t => (t.reg r, t.reg .a, t.flags.z)

/-- ADD r0, #0x42: r0 = 0x43 -/
theorem test_add_overflow : after 0x0ECEBD (start [(.r0, 0x43)] false) .r0 =
    some (0x85, 0x85, ⟨false, true, false⟩) := by decide

/-- ADD r0, #0x01: r0 = 0xFF -/
theorem test_add_carry : after 0x0ECEFE (start [(.r0, 0xFF)] false) .r0 =
    some (0x00, 0x00, ⟨true, false, true⟩) := by decide

/-- ADDC r0, #0x82: r0 = 0x80, C = 1 -/
theorem test_addc : after 0x0EDE7D (start [(.r0, 0x80)] true) .r0 =
    some (0x03, 0x03, ⟨true, true, false⟩) := by decide

/-- SUBD r0, #0x90: r0 = 0x56 -/
theorem test_subd : after 0x0E4E6F (start [(.r0, 0x56)] false) .r0 =
    some (0x3A, 0x3A, ⟨true, true, false⟩) := by decide

/-- SUBDC r0, #0x77: r0 = 0x07, C = 0 -/
theorem test_subdc : after 0x0E5E88 (start [(.r0, 0x07)] false) .r0 =
    some (0x6F, 0x6F, ⟨true, false, false⟩) := by decide

/-- SUBS r0, #0x90: r0 = 0x56 -/
theorem test_subs : after 0x0E3E6F (start [(.r0, 0x56)] false) .r0 =
    some (0xC6, 0xC6, ⟨false, true, false⟩) := by decide

/-- SUBSC r0, #0x77: r0 = 0x07, C = 1 (90_conflicts.md C6) -/
theorem test_subsc : after 0x0E7E88 (start [(.r0, 0x07)] true) .r0 =
    some (0x90, 0x90, ⟨false, false, false⟩) := by decide

/-- INC r0: r0 = 0xFF -/
theorem test_inc : after 0x0D1FEE (start [(.r0, 0xFF)] false) .r0 =
    some (0x00, 0x00, ⟨true, false, true⟩) := by decide

/-- INCC r0: r0 = 0x7F, C = 1 -/
theorem test_incc : after 0x0D5FEE (start [(.r0, 0x7F)] true) .r0 =
    some (0x80, 0x80, ⟨false, true, false⟩) := by decide

/-- DEC r0: r0 = 0x00 -/
theorem test_dec : after 0x0DBFEE (start [(.r0, 0x00)] false) .r0 =
    some (0xFF, 0xFF, ⟨false, false, false⟩) := by decide

/-- DECC r0: r0 = 0x00, C = 1 -/
theorem test_decc : after 0x0DFFEE (start [(.r0, 0x00)] true) .r0 =
    some (0x00, 0x00, ⟨true, false, true⟩) := by decide

/-- CPL2 r0: r0 = 0x80 -/
theorem test_cpl2 : after 0x0D9FEE (start [(.r0, 0x80)] false) .r0 =
    some (0x80, 0x80, ⟨false, true, false⟩) := by decide

/-- CPL2C r0: r0 = 0x00, C = 0 (90_conflicts.md C7) -/
theorem test_cpl2c : after 0x0DCFEE (start [(.r0, 0x00)] false) .r0 =
    some (0xFF, 0xFF, ⟨false, false, false⟩) := by decide

/-- CMP r0, #0x99: r0 = 0x50 -/
theorem test_cmp : after 0x0E1E66 (start [(.r0, 0x50)] false) .r0 =
    some (0x50, 0x49, ⟨true, true, false⟩) := by decide

/-- CMPA r0, #0x47: r0 = 0x50 -/
theorem test_cmpa : after 0x0E0EB8 (start [(.r0, 0x50)] false) .r0 =
    some (0x50, 0xF7, ⟨false, false, false⟩) := by decide

/-- MUL r0, r1, r2: r1 = 0x55, r2 = 0xAA; MULA the same; the flags are free -/
theorem test_mul : ((run 0x0CECDE (start [(.r1, 0x55), (.r2, 0xAA)] false)).map fun t => (t.reg .r0, t.reg .a)) =
      some (0x38, 0x72) ∧
    ((run 0x0C6CDE (start [(.r1, 0x55), (.r2, 0xAA)] false)).map fun t => (t.reg .r0, t.reg .a)) =
      some (0xE3, 0x72) := by decide

/-- AND a, r1: r1 = 0x0F, a = 0xF0 -/
theorem test_and : afterZ 0x0C2FDF (start [(.r1, 0x0F), (.a, 0xF0)] false) .r1 =
    some (0x0F, 0x00, true) := by decide

/-- OR i0h, #0x33: i0h = 0x99 -/
theorem test_or : afterZ 0x0EB1CC (start [(.i0h, 0x99)] false) .i0h =
    some (0xBB, 0xBB, false) := by decide

/-- XOR i0h, #0x33: i0h = 0x99 -/
theorem test_xor : afterZ 0x0E81CC (start [(.i0h, 0x99)] false) .i0h =
    some (0xAA, 0xAA, false) := by decide

/-- CPL1 r0: r0 = 0x55 -/
theorem test_cpl1 : afterZ 0x0D8FEE (start [(.r0, 0x55)] false) .r0 =
    some (0xAA, 0xAA, false) := by decide

/-- TSTB r0, #3: r0 = 0x16 -/
theorem test_tstb : afterZ 0x0EFEF7 (start [(.r0, 0x16)] false) .r0 =
    some (0x16, 0x00, true) := by decide

/-- SHL r1: r1 = 0xBF -/
theorem test_shl : after 0x0DAFDD (start [(.r1, 0xBF)] false) .r1 =
    some (0x7E, 0x7E, ⟨true, true, false⟩) := by decide

/-- SHLC r1: r1 = 0xAA, C = 1 -/
theorem test_shlc : after 0x0DEFDD (start [(.r1, 0xAA)] true) .r1 =
    some (0x55, 0x55, ⟨true, true, false⟩) := by decide

/-- SHR r1: r1 = 0x55 -/
theorem test_shr : after 0x0D6FDD (start [(.r1, 0x55)] false) .r1 =
    some (0x2A, 0x2A, ⟨true, false, false⟩) := by decide

/-- SHRC r1: r1 = 0x55, C = 1 -/
theorem test_shrc : after 0x0D4FDD (start [(.r1, 0x55)] true) .r1 =
    some (0xAA, 0xAA, ⟨true, false, false⟩) := by decide

/-- SHRA r1: r1 = 0xAA -/
theorem test_shra : after 0x0D0FDD (start [(.r1, 0xAA)] false) .r1 =
    some (0xD5, 0xD5, ⟨false, false, false⟩) := by decide

/-- CMVD ipl, -(i3, 0x33): DM[0x0000] = 0x58, i3 = 0x0033, ipl = 0x01, C = 0 and C = 1 -/
theorem test_cmvd :
    [false, true].map (fun c =>
      (run 0x1728CD { start [(.i3l, 0x33), (.ipl, 0x01)] c with dm := [(0, 0x58)] }).map fun t =>
        (t.reg .ipl, t.reg .a, t.regs.pair .i3)) =
      [some (0x58, 0x58, 0), some (0x01, 0x58, 0)] := by decide

/-- CMVS ipl, -(i3, 0x33): DM[0x0000] = 0x58, i3 = 0x0033, ipl = 0x01, C = 0 and C = 1 (90_conflicts.md C17) -/
theorem test_cmvs :
    [false, true].map (fun c =>
      (run 0x1738CD { start [(.i3l, 0x33), (.ipl, 0x01)] c with dm := [(0, 0x58)] }).map fun t =>
        (t.reg .ipl, t.reg .a, t.regs.pair .i3)) =
      [some (0x01, 0x58, 0), some (0x58, 0x58, 0)] := by decide

/-- MOVE r0, -(i2, 0x7F): i2 = 0x0000, DM[0xFF81] = 0x02 -/
theorem test_move_predec_wraps :
    ((run 0x14AE81 { start [] false with dm := [(0xFF81, 0x02)] }).map fun t => (t.reg .r0, t.regs.pair .i2)) =
      some (0x02, 0xFF81) := by decide

/-- MOVE 0xF2, #0x85 (word written out from 30_encoding.md R110): one byte of page 0 -/
theorem test_store_immediate :
    ((run 0b0000000111101000001101 (start [] false)).map fun t => t.dm) = some [(0xF2, 0x85)] := by decide

/-- JCS ip: pc = 0x43E7, ip = 0x3A54, C = 1 and C = 0 -/
theorem test_jcs_ip :
    [true, false].map (fun c =>
      (run 0x24FFFF { start [(.iph, 0x3A), (.ipl, 0x54)] c with pc := 0x43E7 }).map fun t => t.pc) =
      [some 0x3A54, some 0x43E8] := by decide

/-- The stack of the vectors: `l` in use, the levels below hold 0. -/
def withStack (pc : Word) (l : List Word) (s : State) : State :=
  { s with pc := pc, levels := l ++ List.replicate (4 - l.length) 0, cnt := l.length }

/-- The pc and the levels in use. -/
def pcAndStack (t : State) : Word × List Word := (t.pc, t.levels.take t.cnt)

/-- CALL 0x0A54: pc = 0x43E7, ST = [0x5555, 0x7777] -/
theorem test_call : (run 0x39F5AB (withStack 0x43E7 [0x5555, 0x7777] (start [] false))).map pcAndStack =
    some (0x0A54, [0x43E8, 0x5555, 0x7777]) := by decide

/-- CALLS ip: pc = 0x43E7, ip = 0x0A54 -/
theorem test_calls_ip :
    ((run 0x2AFFFF (withStack 0x43E7 [] (start [(.iph, 0x0A), (.ipl, 0x54)] false))).map fun t => (t.pc, t.regs.ip)) =
      some (0x0A54, 0x43E8) := by decide

/-- RET: ST = [0x43E8, 0x5555, 0x7777, 0x9999] -/
theorem test_ret : (run 0x3F3FFF (withStack 0 [0x43E8, 0x5555, 0x7777, 0x9999] (start [] false))).map pcAndStack =
    some (0x43E8, [0x5555, 0x7777, 0x9999]) := by decide

/-- RETI: ST = [0x43E8, 0x5555, 0x7777], stat = 0x00 -/
theorem test_reti :
    ((run 0x3F1FFF (withStack 0 [0x43E8, 0x5555, 0x7777] (start [] false))).map fun t => (pcAndStack t, t.reg .stat)) =
      some ((0x43E8, [0x5555, 0x7777]), 0x20) := by decide

/-- PUSH: pc = 0x43E7, ip = 0x0A54, ST = [0x3333, 0x5555, 0x7777] -/
theorem test_push :
    (run 0x2DFFFF (withStack 0x43E7 [0x3333, 0x5555, 0x7777] (start [(.iph, 0x0A), (.ipl, 0x54)] false))).map pcAndStack =
      some (0x43E8, [0x0A54, 0x3333, 0x5555, 0x7777]) := by decide

/-- POP: pc = 0x43E7, ip = 0x2222, ST = [0x0A54, 0x3333, 0x5555, 0x7777] -/
theorem test_pop :
    ((run 0x3EBFFF (withStack 0x43E7 [0x0A54, 0x3333, 0x5555, 0x7777]
        (start [(.iph, 0x22), (.ipl, 0x22)] false))).map fun t => (pcAndStack t, t.regs.ip)) =
      some ((0x43E8, [0x3333, 0x5555, 0x7777]), 0x0A54) := by decide

/-- SFLAG: C = 1, V = 0, an empty stack (44_special.md R270); the low nibble is free -/
theorem test_sflag :
    ∃ v, (run 0x0B7FFF (start [] true)).map (fun t => t.reg .a) = some v ∧ v.extractLsb' 4 4 = 0b1101#4 :=
  ⟨(start [] true).savedFlags, rfl, by
    unfold State.savedFlags
    rw [extract_append_high (h := by decide)]
    decide⟩

/-- FREQ div8 -/
theorem test_freq : ((run 0x0BBFFE (start [] false)).map fun t => t.freqOut) = some 0b1110 := by decide

/-- FREQ with the reserved ratio 0001 is refused (93 U2). -/
theorem test_freq_reserved : exec (.freq 0b0001) State.reset = .refused .reservedDivn := rfl

/-- HALT with nothing active halts (44_special.md R272). -/
theorem test_halt : ((run 0x0BDFFF (start [] false)).map fun t => (t.halted, t.pc)) = some (true, 1) := by decide

/-- HALT with an event active in the control view does not (44_special.md R272). -/
theorem test_halt_event :
    ((run 0x0BDFFF { start [] false with statCtl := 0x01 }).map fun t => (t.halted, t.pc)) = some (false, 1) := by decide

/-- PMD #0 in Normal mode only advances the pc (44_special.md R274). -/
theorem test_pmd_off :
    ((run 0x0BEEFF { start [] false with pc := 0x0FFF }).map fun t => (t.romMode, t.pc)) = some (false, 0x1000) := by decide

/-! ## Single steps -/

/-- The first step after reset runs the word put where the step fetches. -/
theorem test_first_step :
    (match step (State.reset.withFetchWord 22 0x0EAEFE) with
      | .next t => some (t.reg .r0, t.reg .a, t.pc)
      | .fault _ => none
      | .refused _ => none) = some (1, 1, 1) := by decide

/-- The output pins after reset (10_state.md R52, 60_exceptions.md R351, R360). -/
theorem test_outputs : State.reset.outputs = ⟨false, 0, false, 0, true⟩ := by decide

/-- Nothing is loaded at reset, so the first step faults (log 5). -/
theorem test_empty_program : step State.reset = .fault .unpopulatedFetch := rfl

/-- The idle input with some lines changed. -/
def input (reset : Bool) (pins : Pins) (testEn testShift testIn : Bool) : StepInput :=
  { reset := reset, pins := pins, busWrites := [], testEn := testEn, testShift := testShift, testIn := testIn }

def noPins : Pins := ⟨false, false, false, false, false⟩

/-- A line asserted at a boundary is taken at that boundary (60_exceptions.md R316, R324): level 2, GIE and IE2 set. -/
theorem test_interrupt :
    (match step { start [(.stat, 0xA0)] false with
        statCtl := 0xA0, pc := 0x0100, inputs := [input false ⟨true, false, false, false, false⟩ false false false] } with
      | .next t => some (pcAndStack t, t.reg .stat, t.statCtl)
      | .fault _ => none
      | .refused _ => none) = some ((2, [0x0100]), 0x90, 0x90) := by decide

/-! ## Witnesses: for each statement with hypotheses a concrete state and operands that meet them -/

/-- A state whose next step runs the word. -/
def ready (w : Nat) : State := State.reset.withFetchWord 22 w

theorem reset_hazardFree (rs : List Reg) : State.reset.HazardFree rs := fun _ h => by cases h

theorem witness_DecodedWordsMatchTheirPattern :
    decode 0b0011011010000011011101#22 = some (.shlReg2 .r1 .r1) ∧ decode 0x3FFFFF#22 = some .nop := by decide

theorem witness_UnassignedAluCodesNameNoInstruction :
    (0b0111101001000100100011#22).extractLsb' 20 2 = 0b01#2 ∧ (0b0111101001000100100011#22).extractLsb' 12 5 = 0b01001#5 ∧
      (0b0011001111000100100011#22).extractLsb' 17 5 = 0b00110#5 ∧
      (0b0011001111000100100011#22).extractLsb' 12 5 = 0b01111#5 ∧
      (0b0001110111000111111111#22).extractLsb' 17 5 = 0b00011#5 ∧
      (0b0001110111000111111111#22).extractLsb' 12 5 = 0b10111#5 ∧
      (0b0001011101000111111111#22).extractLsb' 17 5 = 0b00010#5 ∧
      (0b0001011101000111111111#22).extractLsb' 12 5 = 0b11101#5 ∧
      (0b0011101001000111111111#22).extractLsb' 16 6 = 0b001110#6 ∧
      (0b0011101001000111111111#22).extractLsb' 12 4 = 0b1001#4 ∧
      (0b0011111001000111111111#22).extractLsb' 16 6 = 0b001111#6 := by decide

theorem witness_RegistersAndPairs : Reg.r0 ≠ Ix.lo .i3 ∧ Reg.r0 ≠ Ix.hi .i3 ∧ Reg.stat ≠ .ipl ∧ Reg.stat ≠ .iph := by
  decide

theorem witness_StepRunsTheDecodedInstruction :
    (ready 0x3FFFFF).RunsThisStep ∧ (ready 0x3FFFFF).atBoundary.halted = false ∧
      (ready 0x3FFFFF).atBoundary.pending = none ∧ (ready 0x3FFFFF).atBoundary.romMode = false ∧
      (ready 0x3FFFFF).atBoundary.instructionWord = some 0x3FFFFF#22 ∧ decode 0x3FFFFF#22 = some .nop ∧
      (ready 0x3FFFFF).nextInput.testEn = false ∧ (ready 0x3FFFFF).inputs = [] := by
  refine ⟨⟨rfl, .inl rfl⟩, ?_⟩
  decide

theorem witness_UndefinedWordsAndEmptyAddressesFault :
    ((ready 0x3FFFFE).RunsThisStep ∧ (ready 0x3FFFFE).atBoundary.halted = false ∧
        (ready 0x3FFFFE).atBoundary.pending = none ∧ (ready 0x3FFFFE).atBoundary.romMode = false ∧
        (ready 0x3FFFFE).atBoundary.instructionWord = some 0x3FFFFE#22 ∧ decode 0x3FFFFE#22 = none) ∧
      State.reset.RunsThisStep ∧ State.reset.atBoundary.halted = false ∧ State.reset.atBoundary.pending = none ∧
        State.reset.atBoundary.romMode = false ∧ State.reset.nextInput.testEn = false ∧
        Memory.lookup State.reset.pm State.reset.pc.toNat = none := by
  refine ⟨⟨⟨rfl, .inl rfl⟩, ?_⟩, ⟨rfl, .inl rfl⟩, ?_⟩ <;> decide

theorem witness_StepKeepsTheInvariant : (ready 0x39F5AB).Inv ∧ ∃ t, step (ready 0x39F5AB) = .next t :=
  ⟨⟨by decide, by decide, by decide, by decide, by decide⟩, _, rfl⟩

theorem witness_ResetEventClearsTheCore :
    ({ start [(.r0, 1)] true with inputs := [input true noPins false false false] } : State).nextInput.reset = true ∧
      State.reset.kindAt 0xFFFF ≠ .shared := by decide

theorem witness_PinsSetTheirBits : Reg.a ≠ .stat := by decide

theorem witness_MaskedRequests :
    ({ State.reset with statCtl := 0x24 } : State).pending = some .level0 ∧
      ({ State.reset with statCtl := 0x68 } : State).pending = some .level1 ∧
      ({ State.reset with statCtl := 0xB0 } : State).pending = some .level2 := by decide

theorem witness_PendingInterruptHasTheHighestPriority :
    ({ State.reset with statCtl := 0xFC, cnt := 4 } : State).cnt = State.reset.platform.stackDepth := by decide

/-- A core that runs, and one in Halt mode, with one level pending. -/
def asking (halted : Bool) (ctl : Byte) : State := { start [(.stat, ctl)] false with statCtl := ctl, halted := halted }

theorem witness_InterruptEntrySavesAndVectors :
    (∀ h, (asking h 0x24).RunsThisStep ∧ (asking h 0x24).nextInput.testEn = false ∧
        ((asking h 0x24).atBoundary.halted = true → (asking h 0x24).atBoundary.haltHeld = false) ∧
        (asking h 0x24).atBoundary.pending = some .level0) ∧
      (∀ h, (asking h 0x68).RunsThisStep ∧ (asking h 0x68).nextInput.testEn = false ∧
        ((asking h 0x68).atBoundary.halted = true → (asking h 0x68).atBoundary.haltHeld = false) ∧
        (asking h 0x68).atBoundary.pending = some .level1) ∧
      ∀ h, (asking h 0xB0).RunsThisStep ∧ (asking h 0xB0).nextInput.testEn = false ∧
        ((asking h 0xB0).atBoundary.halted = true → (asking h 0xB0).atBoundary.haltHeld = false) ∧
        (asking h 0xB0).atBoundary.pending = some .level2 :=
  ⟨fun h => ⟨⟨rfl, .inl rfl⟩, rfl, by cases h <;> decide, by cases h <;> decide⟩,
    fun h => ⟨⟨rfl, .inl rfl⟩, rfl, by cases h <;> decide, by cases h <;> decide⟩,
    fun h => ⟨⟨rfl, .inl rfl⟩, rfl, by cases h <;> decide, by cases h <;> decide⟩⟩

theorem witness_HaltedCoreStaysHalted :
    ((asking true 0x00).RunsThisStep ∧ (asking true 0x00).atBoundary.halted = true ∧
        (asking true 0x00).atBoundary.statCtl.getLsbD 0 = false ∧
        (asking true 0x00).atBoundary.statCtl.getLsbD 1 = false ∧ (asking true 0x00).atBoundary.pending = none) ∧
      ({ asking true 0x01 with haltHeld := true } : State).RunsThisStep ∧
        ({ asking true 0x01 with haltHeld := true } : State).atBoundary.halted = true ∧
        ({ asking true 0x01 with haltHeld := true } : State).atBoundary.haltHeld = true := by
  refine ⟨⟨⟨rfl, .inl rfl⟩, ?_⟩, ⟨rfl, .inl rfl⟩, ?_⟩ <;> decide

/-- A halted core with an event in the control view and a NOP at the pc. -/
def woken : State := (asking true 0x02).withFetchWord 22 0x3FFFFF

theorem witness_EventWakesTheCore :
    woken.RunsThisStep ∧ woken.nextInput.testEn = false ∧ woken.atBoundary.halted = true ∧
      woken.atBoundary.haltHeld = false ∧ woken.atBoundary.romMode = false ∧
      woken.atBoundary.statCtl.getLsbD 1 = true ∧ woken.atBoundary.pending = none ∧
      Memory.lookup woken.pm woken.pc.toNat = some 0x3FFFFF#22 ∧ decode 0x3FFFFF#22 = some .nop := by
  refine ⟨⟨rfl, .inl rfl⟩, ?_⟩
  decide

theorem witness_StepNeverWritesProgramMemory : ∃ t, step (ready 0x3FFFFF) = .next t := ⟨_, rfl⟩

/-- A core in Test mode with a cycle to come, and one in ROM mode. -/
def testing (shift : Bool) : State :=
  { State.reset with testEn := true, inputs := [input false noPins true shift true] }

def dumping (testEn : Bool) (w : Nat) : State :=
  { (ready w) with romMode := true, testEn := true, inputs := [input false noPins testEn false false] }

theorem witness_TestAndRomCycles :
    ((testing true).nextInput.reset = false ∧ (testing true).nextInput.testEn = true ∧
        (testing true).nextInput.testShift = true ∧ (testing true).testEn = true ∧
        (testing true).nextInput.busWrites = []) ∧
      ((dumping true 0x3FFFFF).RunsThisStep ∧ (dumping false 0x3FFFFF).RunsThisStep ∧ (dumping true 0x0BEEFF).RunsThisStep) ∧
      ∀ w ∈ [0x3FFFFF, 0x0BEEFF], ∀ e, (dumping e w).atBoundary.halted = false ∧ (dumping e w).atBoundary.pending = none ∧
        (dumping e w).atBoundary.romMode = true ∧ (dumping e w).nextInput.testEn = e ∧
        Memory.lookup (dumping e w).pm (dumping e w).pc.toNat = some (BitVec.ofNat 22 w) := by
  refine ⟨by decide, ⟨⟨rfl, .inr rfl⟩, ⟨rfl, .inl rfl⟩, ⟨rfl, .inr rfl⟩⟩, ?_⟩
  decide

/-- The execute cycle of Test mode: a NOP was shifted in. -/
theorem witness_shifted_in_word :
    let s : State := { testing false with testReg := 0x3FFFFF }
    s.nextInput.testEn = true ∧ s.testEn = true ∧ s.RunsThisStep ∧ s.atBoundary.halted = false ∧
      s.atBoundary.pending = none ∧ s.atBoundary.romMode = false ∧ decode s.testReg = some .nop ∧
      ∃ t, exec .nop s.atBoundary = .next t :=
  ⟨rfl, rfl, ⟨rfl, .inr rfl⟩, rfl, rfl, rfl, by decide, _, rfl⟩

/-- An interrupt in an execute cycle of Test mode and of ROM mode, from a running and from a halted core. -/
theorem witness_interrupt_in_test_mode (rom halted : Bool) :
    let s : State := { testing false with statCtl := 0xB0, romMode := rom, halted := halted }
    s.RunsThisStep ∧ s.nextInput.testEn = true ∧ (s.atBoundary.halted = true → s.atBoundary.haltHeld = false) ∧
      s.atBoundary.pending = some .level2 :=
  ⟨⟨rfl, .inr rfl⟩, rfl, fun _ => rfl, by cases rom <;> cases halted <;> decide⟩

theorem witness_rom_words : decode 0x3FFFFF#22 ≠ some (.pmd false) ∧ decode 0x0BEEFF#22 = some (.pmd false) := by decide

theorem witness_ControlViewLagsOneInstruction :
    (∃ t, exec (.mulReg3 .r0 .r1 .r2) State.reset = .next t) ∧
      Instr.ofAlu .mul (.regs .r0 .r1 .r2) = some (.mulReg3 .r0 .r1 .r2) ∧
      Instr.ofAlu .mula (.imm .r3 5) = some (.mulaImm .r3 5) ∧ (∃ t, exec (.mulaImm .r3 5) State.reset = .next t) ∧
      (∃ t, exec .nop State.reset = .next t) ∧ Instr.nop ≠ .reti :=
  ⟨⟨_, rfl⟩, rfl, rfl, ⟨_, rfl⟩, ⟨_, rfl⟩, by decide⟩

/-- The third clause: NOP is no multiplication. -/
theorem witness_nop_is_no_multiplication (form : AluForm) :
    Instr.ofAlu .mul form ≠ some .nop ∧ Instr.ofAlu .mula form ≠ some .nop := by
  cases form with
  | mem reg ea => cases ea <;> exact ⟨by simp [Instr.ofAlu, sevenForms, memForm], by simp [Instr.ofAlu, sevenForms, memForm]⟩
  | imm _ _ => exact ⟨by simp [Instr.ofAlu, sevenForms], by simp [Instr.ofAlu, sevenForms]⟩
  | regs _ _ _ => exact ⟨by simp [Instr.ofAlu, sevenForms], by simp [Instr.ofAlu, sevenForms]⟩

theorem witness_OnlyStoresWriteDataMemory :
    (∃ t, exec (.moveToPostinc .r0 .i1 3) State.reset = .next t) ∧
      (Instr.moveToPostinc .r0 .i1 3).storeOperand = some (.postinc .i1 3) ∧
      (1 : Word) ≠ State.reset.address (.postinc .i1 3) ∧ (Instr.addImm .r0 1).storeOperand = none ∧
      ∃ t, exec (.addImm .r0 1) State.reset = .next t :=
  ⟨⟨_, rfl⟩, rfl, by decide, rfl, _, rfl⟩

theorem witness_AluClassFrame :
    Instr.ofAlu .add (.mem .r0 (.predec .i1 0x7F)) = some (.addPredec .r0 .i1 0x7F) ∧
      (∃ t, exec (.addPredec .r0 .i1 0x7F) State.reset = .next t) ∧
      Instr.ofAlu .cmp (.mem .r0 (.postinc .i1 1)) = some (.cmpPostinc .r0 .i1 1) ∧
      (∃ t, exec (.cmpPostinc .r0 .i1 1) State.reset = .next t) ∧
      Instr.ofAlu .move (.imm .stat 1) = some (.moveImm .stat 1) ∧ (∃ t, exec (.moveImm .stat 1) State.reset = .next t) ∧
      Reg.r0 ≠ .a ∧ (EAddr.postinc .i1 1).modifies = some .i1 ∧ Reg.r0 ≠ Ix.lo .i1 ∧ Reg.r0 ≠ Ix.hi .i1 :=
  ⟨rfl, ⟨_, rfl⟩, rfl, ⟨_, rfl⟩, rfl, ⟨_, rfl⟩, by decide, rfl, by decide, by decide⟩

theorem witness_ZeroFlagFollowsTheAccumulator :
    AluOp.cmvs ≠ .mul ∧ AluOp.cmvs ≠ .mula ∧
      Instr.ofAlu .cmvs (.mem .r0 (.direct 0)) = some (.cmvsDirect .r0 0) ∧
      ∃ t, exec (.cmvsDirect .r0 0) State.reset = .next t :=
  ⟨by decide, by decide, rfl, _, rfl⟩

theorem witness_LoadIntoTheModifiedPair : State.reset.HazardFree [Ix.lo .i2, Ix.hi .i2] := reset_hazardFree _

/-- The twelve completion statements of the ALU class (`AddAndAddc` to `MoveAndConditionalMoves`): every operation has a
register form or an immediate form, and nothing forbids it in the reset state. -/
theorem witness_Answers :
    [AluOp.add, .addc, .subd, .subs, .subdc, .subsc, .inc, .dec, .incc, .decc, .cpl2, .cpl2c, .cmp, .cmpa, .mul, .mula, .and,
        .or, .xor, .cpl1, .shl, .shlc, .shr, .shrc, .shra, .move, .cmvd, .cmvs].all
      (fun op => (Instr.ofAlu op (.regs .r0 .r1 .a)).isSome && (Instr.ofAlu op (.mem .r0 (.r3 .i1))).isSome) = true ∧
    (Instr.ofAlu .tstb (.imm .r0 4)).isSome = true ∧ ∀ form : AluForm, State.reset.HazardFree form.sources :=
  ⟨by decide, rfl, fun _ => reset_hazardFree _⟩

/-- A data map with every kind of address. -/
def mapped : State :=
  { State.reset with
    platform := { Config.defaultPlatform with
      dataMap := [⟨0x10, 0x1F, .device⟩, ⟨0x20, 0x2F, .unpopulated⟩, ⟨0x30, 0x3F, .shared⟩] } }

theorem mapped_hazardFree (rs : List Reg) : mapped.HazardFree rs := fun _ h => by cases h

theorem witness_StoresWriteOneByte :
    mapped.HazardFree (EAddr.postinc .i1 1).sources ∧ (EAddr.postinc .i1 1).modifies = some .i1 ∧ Reg.r0 ≠ Ix.lo .i1 ∧
      Reg.r0 ≠ Ix.hi .i1 ∧ mapped.kindAt (mapped.address (.postinc .i1 1)) = .ram ∧
      mapped.kindAt (mapped.address (.direct 0x3F)) = .shared :=
  ⟨mapped_hazardFree _, rfl, by decide, by decide, by decide, by decide⟩

theorem witness_StoreOfAnImmediate :
    mapped.kindAt 0x0F = .ram ∧ mapped.kindAt 0x10 = .device ∧ mapped.kindAt 0x1F = .device ∧
      mapped.kindAt 0x20 = .unpopulated ∧ mapped.kindAt 0x2F = .unpopulated ∧ mapped.kindAt 0x30 = .shared ∧
      mapped.kindAt 0x40 = .ram ∧ (0x1F : Word).toNat = (0x1F : Byte).toNat := by decide

theorem witness_DevicesAndUnpopulatedAddresses :
    mapped.HazardFree (EAddr.indexed .i0 0x10).sources ∧
      Instr.ofAlu .move (.mem .r0 (.indexed .i0 0x10)) = some (.moveIndexed .r0 .i0 0x10) ∧
      mapped.kindAt (mapped.address (.indexed .i0 0x10)) = .device ∧
      mapped.kindAt (mapped.address (.direct 0x2F)) = .unpopulated ∧
      mapped.kindAt (mapped.address (.direct 0x30)) ≠ .device ∧ (EAddr.indexed .i0 0x10).modifies = none :=
  ⟨mapped_hazardFree _, rfl, by decide, by decide, by decide, rfl⟩

theorem witness_StoreThenLoadReturnsTheByte :
    ∃ u t, State.reset.kindAt (State.reset.address (.predec .i1 0x7F)) = .ram ∧
      exec (.store .r0 (.predec .i1 0x7F)) State.reset = .next u ∧
      Instr.ofAlu .move (.mem .r1 (.postinc .i1 1)) = some (.movePostinc .r1 .i1 1) ∧
      u.address (.postinc .i1 1) = State.reset.address (.predec .i1 0x7F) ∧
      exec (.movePostinc .r1 .i1 1) u = .next t :=
  ⟨_, _, by decide, rfl, rfl, by decide, rfl⟩

theorem witness_ModifiedStoresAndReservedRatiosAreRefused :
    State.reset.HazardFree [Ix.lo .i0, Ix.hi .i0] ∧ (0b0001#4) ≠ 0b0000 ∧ (0b0001#4) ≠ 0b1000 ∧ (0b0001#4) ≠ 0b1100 ∧
      (0b0001#4) ≠ 0b1110 ∧ (0b0001#4) ≠ 0b1111 :=
  ⟨reset_hazardFree _, by decide, by decide, by decide, by decide, by decide⟩

/-- A core whose last instruction was a multiplication that wrote `d`. -/
def multiplied (d : Reg) : State := { State.reset with mulShadow := some d }

theorem witness_MultiplierHazardIsRefused :
    (multiplied .i2h).mulShadow = some (Ix.hi .i2) ∧ (multiplied .r3).mulShadow = some .r3 ∧
      (multiplied .ipl).mulShadow = some .ipl ∧ (multiplied .iph).mulShadow = some .iph ∧
      Instr.ofAlu .mul (.mem .r0 (.r3 .i2)) = some (.mulR3 .r0 .i2) := ⟨rfl, rfl, rfl, rfl, rfl⟩

/-- Every condition holds in some state and, but for the one that always does, fails in some. -/
theorem witness_JumpsFollowTheirCondition :
    (State.reset.HazardFree (Target.sources .ip)) ∧ State.reset.Holds .cc ∧ State.reset.Holds .vc ∧ State.reset.Holds .zc ∧
      State.reset.Holds .always ∧ ¬ State.reset.Holds .cs ∧ ¬ State.reset.Holds .vs ∧ ¬ State.reset.Holds .zs ∧
      ¬ State.reset.Holds .ev ∧ ({ State.reset with statCtl := 2 } : State).Holds .ev ∧
      ({ State.reset with flags := ⟨true, true, true⟩ } : State).Holds .cs ∧
      ({ State.reset with flags := ⟨true, true, true⟩ } : State).Holds .vs ∧
      ({ State.reset with flags := ⟨true, true, true⟩ } : State).Holds .zs := by
  refine ⟨reset_hazardFree _, rfl, rfl, rfl, trivial, ?_, ?_, ?_, ?_, .inr rfl, rfl, rfl, rfl⟩ <;>
    simp [State.Holds, State.reset]

theorem witness_CompareThenJump :
    (∃ u, exec (.cmpRegs .r0 .r1) State.reset = .next u) ∧
      Instr.ofAlu .cmp (.regs .r0 .r1 .r0) = some (.cmpRegs .r0 .r1) ∧
      (∃ u, exec (.cmpaImm .r0 0x80) State.reset = .next u) ∧
      Instr.ofAlu .cmpa (.imm .r0 0x80) = some (.cmpaImm .r0 0x80) :=
  ⟨⟨_, rfl⟩, rfl, ⟨_, rfl⟩, rfl⟩

theorem witness_JevSeesAStatWriteOneInstructionLate :
    ∃ u v, exec (.moveImm .stat 0x01) State.reset = .next u ∧ exec .nop u = .next v := ⟨_, _, rfl, rfl⟩

/-- A full stack. -/
def full : State := { State.reset with levels := [1, 2, 3, 4], cnt := 4 }

theorem witness_CallPushesTheReturnAddress :
    State.reset.HazardFree (Target.sources .ip) ∧ State.reset.cnt ≠ State.reset.platform.stackDepth ∧
      full.HazardFree (Target.sources .ip) ∧ full.cnt = full.platform.stackDepth :=
  ⟨reset_hazardFree _, by decide, (fun _ h => by cases h), rfl⟩

theorem witness_CallsSavesTheReturnAddressInIp : State.reset.HazardFree (Target.sources .ip) := reset_hazardFree _

/-- `RET`, `RETI` and `POP`: a level in use, a full stack, an empty one. -/
theorem witness_RetPopsThePc :
    full.cnt ≠ 0 ∧ full.levels = 1 :: [2, 3, 4] ∧ full.cnt ≤ full.platform.stackDepth ∧ State.reset.cnt = 0 := by decide

theorem witness_RetiPopsThePcAndSetsGie : full.cnt ≠ 0 ∧ full.levels = 1 :: [2, 3, 4] ∧ State.reset.cnt = 0 := by decide

theorem witness_PopLoadsIp :
    full.cnt ≠ 0 ∧ full.levels = 1 :: [2, 3, 4] ∧ full.cnt ≤ full.platform.stackDepth ∧ State.reset.cnt = 0 := by decide

theorem witness_PushSavesIp :
    State.reset.HazardFree [.ipl, .iph] ∧ State.reset.cnt ≠ State.reset.platform.stackDepth ∧
      full.HazardFree [.ipl, .iph] ∧ full.cnt = full.platform.stackDepth ∧ (multiplied .ipl).mulShadow = some .ipl :=
  ⟨reset_hazardFree _, by decide, (fun _ h => by cases h), rfl, rfl⟩

theorem witness_PushThenPopReturnsIp :
    ∃ u t, State.reset.levels.length = State.reset.platform.stackDepth ∧ exec .push State.reset = .next u ∧
      exec .pop u = .next t := ⟨_, _, rfl, rfl, rfl⟩

theorem witness_SavedFlagsAreRestored :
    ∃ u t, exec .sflag State.reset = .next u ∧ u.reg .a = u.reg .a ∧ exec (.shlReg2 .a .a) u = .next t :=
  ⟨_, _, rfl, rfl, rfl⟩

theorem witness_FreqSetsFreqOut : (0b1111#4 = 0b0000 ∨ 0b1111#4 = 0b1000 ∨ 0b1111#4 = 0b1100 ∨ 0b1111#4 = 0b1110 ∨
    0b1111#4 = 0b1111) ∧ (0b0000#4 = 0b0000) := by decide

theorem witness_PmdSwitchesRomMode : (testing false).testEn = true ∧ State.reset.testEn = false := by decide

/-- A core before HALT with this `stat` and this control view of it. -/
def blind (stat ctl : Byte) : State := { start [(.stat, stat)] false with statCtl := ctl }

/-- HALT: a condition in the control view; none anywhere; none but those only unmasked by the instruction before; and for
each bit that it may have set. -/
theorem witness_HaltEntersHaltMode :
    (asking false 0x02).Wakeful 0x02 ∧ (asking false 0xB0).Wakeful 0xB0 ∧
      (∀ p ∈ [((0x00 : Byte), (0x00 : Byte)), (0x24, 0x04), (0x68, 0x28), (0xB0, 0x90), (0x1C, 0x00)],
        ¬ (blind p.1 p.2).Wakeful (blind p.1 p.2).statCtl ∧ ¬ (blind p.1 p.2).WakeUpJustSet) ∧
      ∀ p ∈ [((0x01 : Byte), (0x00 : Byte)), (0x02, 0x00), (0x24, 0x20), (0x68, 0x60), (0xB0, 0xA0)],
        ¬ (blind p.1 p.2).Wakeful (blind p.1 p.2).statCtl ∧ (blind p.1 p.2).WakeUpJustSet := by
  simp only [← State.wakes_iff, ← State.wakeUpJustSet_iff, List.forall_mem_cons]
  refine ⟨?_, ?_, ⟨⟨?_, ?_⟩, ⟨?_, ?_⟩, ⟨?_, ?_⟩, ⟨?_, ?_⟩, ⟨?_, ?_⟩, List.forall_mem_nil _⟩,
    ⟨?_, ?_⟩, ⟨?_, ?_⟩, ⟨?_, ?_⟩, ⟨?_, ?_⟩, ⟨?_, ?_⟩, List.forall_mem_nil _⟩ <;> decide

/-- HALT after the write of GIE that unmasks IN0: the next boundary takes the interrupt (60_exceptions.md R330, R345). -/
theorem test_halt_after_unmasking :
    (match execHalt (blind 0x24 0x04) with
      | .next t => some (t.halted, t.haltHeld, t.pending)
      | .fault _ => none
      | .refused _ => none) = some (true, false, some .level0) := by decide

/-- A word of PMD #0 met in ROM mode is captured and ends the mode (60_exceptions.md R353). -/
theorem test_rom_pmd_off :
    (match step (dumping true 0x0BEEFF) with
      | .next t => some (t.testReg, t.romMode, t.pc)
      | .fault _ => none
      | .refused _ => none) = some (0x0BEEFF, false, 1) := by decide

end Sys2Proof.Tests
end

section
/-! SUPPORT. What the instructions that stand alone and the end of an instruction can do, said once, and how each operation of
the machine keeps the invariant. -/

namespace Sys2Proof.Machine

/-! ### Inversion of `SFLAG`, `HALT` and the return from an interrupt -/

/-- Everything a return from an interrupt can do (40_branch.md R163). -/
theorem State.interruptReturn_eq_some {s t : State} (h : s.interruptReturn = some t) :
    ∃ v u, s.pop = some (v, u) ∧
      t = { (s.finish (u.setReg .stat (setGie s.regs.stat)) v none) with
        statCtl := if s.platform.retiGieDelay then s.regs.stat else setGie s.regs.stat } := by
  unfold State.interruptReturn at h
  split at h
  · cases h
  · next v u hp => exact ⟨v, u, hp, (Option.some.inj h).symm⟩

/-- Everything `SFLAG` can do (44_special.md R270). -/
theorem execSflag_next {s t : State} (h : execSflag s = .next t) :
    t = s.finish
      { s.setReg .a s.savedFlags with
        flags := { s.flags with z := Config.freeBit s.draws }, draws := s.draws + 1 }
      s.nextPc none :=
  (Host.Outcome.next.inj h).symm

/-- Everything `HALT` can do: the core goes on, or it halts, held or not (44_special.md R272, log 20). -/
theorem execHalt_next {s t : State} (h : execHalt s = .next t) :
    t = s.finish s s.nextPc none ∨
      ∃ held n, t = { s.finish s s.nextPc none with halted := true, haltHeld := held, draws := n } := by
  unfold execHalt at h
  split at h
  · exact .inl (Host.Outcome.next.inj h).symm
  · split at h <;> exact .inr ⟨_, _, (Host.Outcome.next.inj h).symm⟩

/-! ### The control view and the multiplier shadow after an instruction -/

/-- What an ALU-class operation leaves in the multiplier shadow (10_state.md R50). -/
theorem aluNext_mulShadow (op : AluOp) (form : AluForm) (s : State) :
    (aluNext (aluFn op) form s).mulShadow = if op = .mul ∨ op = .mula then some form.dest else none := by
  rw [aluNext_eq]
  simp only [State.afterAlu, State.aluOut, aluFn_mul, decide_eq_true_eq]

/-- How an instruction ends: by the template of the ALU class, by a return from an interrupt, or with the `stat` it began
with in the control view and no multiplication pending (10_state.md R49, R50). -/
theorem exec_ends {i : Instr} {s t : State} (h : exec i s = .next t) :
    (∃ op form, Instr.ofAlu op form = some i ∧ t = aluNext (aluFn op) form s) ∨
      (i = .reti ∧ t.mulShadow = none) ∨ (t.statCtl = s.regs.stat ∧ t.mulShadow = none) := by
  rcases exec_next h with ⟨op, form, hi, -, ht⟩ | ⟨reg, ea, -, -, -, rfl⟩ | ⟨addr, data, -, rfl⟩ | ⟨c, tg, -, -, rfl⟩ |
    ⟨tg, -, -, -, rfl⟩ | ⟨tg, -, -, rfl⟩ | ⟨-, v, u, -, rfl⟩ | ⟨hi, hr⟩ | ⟨-, -, -, rfl⟩ | ⟨-, v, u, -, rfl⟩ | ⟨-, hs⟩ |
    ⟨-, hh⟩ | ⟨-, rfl⟩ | ⟨on, -, -, rfl⟩ | ⟨divn, -, -, rfl⟩
  · exact .inl ⟨op, form, hi, ht⟩
  · exact .inr (.inr ⟨rfl, rfl⟩)
  · exact .inr (.inr ⟨rfl, rfl⟩)
  · exact .inr (.inr ⟨rfl, rfl⟩)
  · exact .inr (.inr ⟨rfl, rfl⟩)
  · exact .inr (.inr ⟨rfl, rfl⟩)
  · exact .inr (.inr ⟨rfl, rfl⟩)
  · obtain ⟨v, u, -, rfl⟩ := State.interruptReturn_eq_some hr
    exact .inr (.inl ⟨hi, rfl⟩)
  · exact .inr (.inr ⟨rfl, rfl⟩)
  · exact .inr (.inr ⟨rfl, rfl⟩)
  · rw [execSflag_next hs]
    exact .inr (.inr ⟨rfl, rfl⟩)
  · obtain rfl | ⟨held, n, rfl⟩ := execHalt_next hh <;> exact .inr (.inr ⟨rfl, rfl⟩)
  · exact .inr (.inr ⟨rfl, rfl⟩)
  · exact .inr (.inr ⟨rfl, rfl⟩)
  · exact .inr (.inr ⟨rfl, rfl⟩)

/-- Settles O20: the end of an instruction writes both fields, from the `stat` and the operation it began with. -/
theorem controlViewLagsOneInstruction : Obligations.ControlViewLagsOneInstruction := by
  intro i s t h
  have shadow_of_mul : ∀ {op form}, op = .mul ∨ op = .mula → Instr.ofAlu op form = some i →
      t.mulShadow = some form.dest := by
    intro op form ho hi
    rw [exec_ofAlu hi] at h
    rw [(runAlu_next h).2, aluNext_mulShadow, if_pos ho]
  refine ⟨?_, ?_, ?_⟩
  · intro hreti
    obtain ⟨op, form, -, rfl⟩ | ⟨hi, -⟩ | ⟨hctl, -⟩ := exec_ends h
    · rfl
    · exact absurd hi hreti
    · exact hctl
  · rintro form (hi | hi)
    · exact shadow_of_mul (.inl rfl) hi
    · exact shadow_of_mul (.inr rfl) hi
  · intro hno
    obtain ⟨op, form, hi, rfl⟩ | ⟨-, hnone⟩ | ⟨-, hnone⟩ := exec_ends h
    · rw [aluNext_mulShadow, if_neg]
      rintro (rfl | rfl)
      · exact (hno form).1 hi
      · exact (hno form).2 hi
    · exact hnone
    · exact hnone

/-! ### The invariant, kept by each operation on the state -/

section
variable {s t : State}

theorem State.Inv.finish (h : t.Inv) (p : Word) (d : Option Reg) : (s.finish t p d).Inv :=
  ⟨h.dataMemory, h.programMemory, h.stackDepth, h.stackCount, h.held⟩

theorem State.Inv.setReg (h : s.Inv) (r : Reg) (v : Byte) : (s.setReg r v).Inv :=
  ⟨h.dataMemory, h.programMemory, h.stackDepth, h.stackCount, h.held⟩

theorem State.Inv.setPair (h : s.Inv) (ix : Ix) (w : Word) : (s.setPair ix w).Inv :=
  ⟨h.dataMemory, h.programMemory, h.stackDepth, h.stackCount, h.held⟩

theorem State.Inv.setIp (h : s.Inv) (w : Word) : (s.setIp w).Inv :=
  ⟨h.dataMemory, h.programMemory, h.stackDepth, h.stackCount, h.held⟩

theorem State.Inv.updateIndex (h : s.Inv) (ea : EAddr) : (s.updateIndex ea).Inv := by
  cases ea with
  | direct _ => exact h
  | indexed _ _ => exact h
  | postinc ix _ => exact h.setPair ix _
  | predec ix _ => exact h.setPair ix _
  | r3 _ => exact h

theorem State.Inv.writeData (h : s.Inv) (a : Word) (v : Byte) : (s.writeData a v).Inv where
  dataMemory := State.wf_writeData a v h.dataMemory
  programMemory := by simpa using h.programMemory
  stackDepth := by simpa using h.stackDepth
  stackCount := by simpa using h.stackCount
  held := by simpa using h.held

theorem State.Inv.storeNext (h : s.Inv) (v : Byte) (ea : EAddr) : (storeNext v ea s).Inv :=
  ((h.writeData _ v).updateIndex ea).finish _ _

theorem State.Inv.aluNext (h : s.Inv) (f : AluFn) (form : AluForm) : (aluNext f form s).Inv := by
  rw [aluNext_eq]
  exact ⟨h.dataMemory, h.programMemory, h.stackDepth, h.stackCount, h.held⟩

/-- A push that finds room keeps the depth of the stack and its counter within it (10_state.md R42). -/
theorem State.Inv.pushed (h : s.Inv) (hroom : s.cnt ≠ s.platform.stackDepth) (v : Word) : (s.pushed v).Inv where
  dataMemory := h.dataMemory
  programMemory := h.programMemory
  stackDepth := by
    have := h.stackDepth
    simp [State.pushed, this]
  stackCount := Nat.lt_of_le_of_ne h.stackCount hroom
  held := h.held

/-- A pop vacates the level it takes off, so the depth stays (10_state.md R43). -/
theorem State.Inv.pop (h : s.Inv) {v : Word} (hp : s.pop = some (v, t)) : t.Inv := by
  obtain ⟨-, rest, hl, rfl⟩ := State.pop_eq_some.1 hp
  refine ⟨h.dataMemory, h.programMemory, ?_, (Nat.sub_le _ _).trans h.stackCount, h.held⟩
  have hdepth := h.stackDepth
  simpa [hl] using hdepth

theorem State.Inv.interruptReturn (h : s.Inv) (hr : s.interruptReturn = some t) : t.Inv := by
  obtain ⟨v, u, hp, rfl⟩ := State.interruptReturn_eq_some hr
  obtain ⟨hdm, hpm, hdepth, hcount, hheld⟩ := h.pop hp
  exact ⟨hdm, hpm, hdepth, hcount, hheld⟩

/-- `HALT` holds the core only where it halts it. -/
theorem State.Inv.execHalt (h : s.Inv) (hh : execHalt s = .next t) : t.Inv := by
  obtain rfl | ⟨held, n, rfl⟩ := execHalt_next hh
  · exact h.finish _ _
  · exact ⟨h.dataMemory, h.programMemory, h.stackDepth, h.stackCount, fun _ => rfl⟩

/-- Every instruction that completes keeps the invariant. -/
theorem State.Inv.exec {i : Instr} (h : s.Inv) (he : exec i s = .next t) : t.Inv := by
  rcases exec_next he with ⟨op, form, -, -, rfl⟩ | ⟨reg, ea, -, -, -, rfl⟩ | ⟨addr, data, -, rfl⟩ | ⟨c, tg, -, -, rfl⟩ |
    ⟨tg, -, -, hroom, rfl⟩ | ⟨tg, -, -, rfl⟩ | ⟨-, v, u, hp, rfl⟩ | ⟨-, hr⟩ | ⟨-, -, hroom, rfl⟩ | ⟨-, v, u, hp, rfl⟩ |
    ⟨-, hs⟩ | ⟨-, hh⟩ | ⟨-, rfl⟩ | ⟨on, -, -, rfl⟩ | ⟨divn, -, -, rfl⟩
  · exact h.aluNext _ form
  · exact h.storeNext _ ea
  · exact h.storeNext data _
  · exact h.finish _ _
  · exact (h.pushed hroom _).finish _ _
  · exact (h.setIp _).finish _ _
  · exact (h.pop hp).finish _ _
  · exact h.interruptReturn hr
  · exact (h.pushed hroom _).finish _ _
  · exact ((h.pop hp).setIp v).finish _ _
  · rw [execSflag_next hs]
    exact ⟨h.dataMemory, h.programMemory, h.stackDepth, h.stackCount, h.held⟩
  · exact h.execHalt hh
  · exact h.finish _ _
  · exact ⟨h.dataMemory, h.programMemory, h.stackDepth, h.stackCount, h.held⟩
  · exact ⟨h.dataMemory, h.programMemory, h.stackDepth, h.stackCount, h.held⟩

/-! ### The invariant, kept by what a step does around an instruction -/

theorem State.Inv.takeInput (h : s.Inv) : s.takeInput.Inv where
  dataMemory := State.wf_takeInput h.dataMemory
  programMemory := by simpa using h.programMemory
  stackDepth := by simpa using h.stackDepth
  stackCount := by simpa using h.stackCount
  held := by simpa using h.held

/-- A pin can end the wait of a held core, and nothing here begins one. -/
theorem State.Inv.samplePins (h : s.Inv) (p : Pins) : (s.samplePins p).Inv where
  dataMemory := h.dataMemory
  programMemory := h.programMemory
  stackDepth := h.stackDepth
  stackCount := h.stackCount
  held hk := h.held (Bool.and_eq_true_iff.1 hk).1

theorem State.Inv.atBoundary (h : s.Inv) : s.atBoundary.Inv := h.takeInput.samplePins _

/-- A reset empties the stack and leaves as many levels as the platform has (10_state.md R52, log 7). -/
theorem State.Inv.resetEvent (h : s.Inv) : s.resetEvent.Inv where
  dataMemory := h.dataMemory
  programMemory := h.programMemory
  stackDepth := by simp
  stackCount := Nat.zero_le _
  held hk := by cases hk

theorem State.Inv.shiftTest (h : s.Inv) (b : Bool) : (s.shiftTest b).Inv :=
  ⟨h.dataMemory, h.programMemory, h.stackDepth, h.stackCount, h.held⟩

theorem State.Inv.stayHalted (h : s.Inv) : s.stayHalted.Inv :=
  ⟨h.dataMemory, h.programMemory, h.stackDepth, h.stackCount, h.held⟩

theorem State.Inv.leaveHalt (h : s.Inv) : s.leaveHalt.Inv := by
  unfold State.leaveHalt
  split
  · exact ⟨h.dataMemory, h.programMemory, h.stackDepth, h.stackCount, nofun⟩
  · exact h

theorem State.Inv.capture (h : s.Inv) : s.capture.Inv := by
  unfold State.capture
  split
  · exact ⟨h.dataMemory, h.programMemory, h.stackDepth, h.stackCount, h.held⟩
  · exact h

/-- A request is masked while the stack is full, so the return address finds room (60_exceptions.md R321, R324). -/
theorem State.Inv.interruptEntry (h : s.Inv) {k : Level} (hk : s.pending = some k) : (s.interruptEntry k).Inv := by
  have hroom := State.request_not_full (State.pending_eq_some hk)
  obtain ⟨hdm, hpm, hdepth, hcount, -⟩ := h.pushed hroom s.pc
  exact ⟨hdm, hpm, hdepth, hcount, nofun⟩

theorem State.Inv.romCycle (h : s.Inv) (hr : s.romCycle = .next t) : t.Inv := by
  obtain ⟨-, w, -, rfl⟩ := State.romCycle_next hr
  exact ⟨h.dataMemory, h.programMemory, h.stackDepth, h.stackCount, h.held⟩

theorem State.Inv.runInstruction (h : s.Inv) (hr : s.runInstruction = .next t) : t.Inv := by
  obtain ⟨w, i, u, -, -, he, rfl⟩ := State.runInstruction_next hr
  exact (h.exec he).capture

theorem State.Inv.runBoundary (h : s.Inv) (hb : s.runBoundary = .next t) : t.Inv := by
  obtain ⟨-, rfl⟩ | ⟨-, ⟨k, hk, rfl⟩ | ⟨-, ⟨-, hrom⟩ | ⟨-, hrun⟩⟩⟩ := State.runBoundary_next hb
  · exact h.stayHalted
  · exact (h.leaveHalt.interruptEntry hk).capture
  · exact h.leaveHalt.romCycle hrom
  · exact h.leaveHalt.runInstruction hrun

end

/-- Settles O8: one case for a reset, for a shift cycle of the test interface, and for a boundary. -/
theorem stepKeepsTheInvariant : Obligations.StepKeepsTheInvariant := by
  intro s t h hstep
  obtain ⟨-, rfl⟩ | ⟨-, -, rfl⟩ | ⟨-, hb⟩ := step_next hstep
  · exact h.takeInput.resetEvent
  · exact h.takeInput.shiftTest _
  · exact h.atBoundary.runBoundary hb

/-- Settles O9. -/
theorem resetMeetsTheInvariant : Obligations.ResetMeetsTheInvariant where
  dataMemory := reset_memory_wf.1
  programMemory := reset_memory_wf.2
  stackDepth := List.length_replicate
  stackCount := Nat.zero_le _
  held := nofun

/-! ### Registers and the reset state -/

@[simp] theorem Regs.get_reset (r : Reg) : Regs.reset.get r = 0 := by cases r <;> rfl

/-- Settles O10. -/
theorem resetStateIsAsListed : Obligations.ResetStateIsAsListed :=
  ⟨Regs.get_reset, rfl, rfl, rfl, rfl, rfl, rfl, rfl, rfl, rfl, rfl, rfl⟩

/-- Settles O5, from what a register reads after a write of a register, of a pair and of `ip`. -/
theorem registersAndPairs : Obligations.RegistersAndPairs := by
  refine ⟨by decide, ?_, fun _ _ => rfl, ?_, ?_⟩
  · intro s r q v
    exact Regs.get_set s.regs r q v
  · intro s ix w
    refine ⟨Regs.pair_setPair s.regs ix w, fun q hlo hhi => ?_⟩
    exact (Regs.get_setPair s.regs ix w q).trans (by rw [if_neg hlo, if_neg hhi, State.reg])
  · intro s w
    refine ⟨rfl, Regs.ip_setIp s.regs w, fun q hlo hhi => ?_⟩
    exact (Regs.get_setIp s.regs w q).trans (by rw [if_neg hlo, if_neg hhi, State.reg])

/-! ### The frame of the ALU class -/

/-- The index update writes the two bytes of the modified pair alone (20_memory.md R86). -/
theorem State.get_regsAfterIndex_other (s : State) {form : AluForm} {r : Reg}
    (h : ∀ reg ea ix, form = .mem reg ea → ea.modifies = some ix → r ≠ ix.lo ∧ r ≠ ix.hi) :
    (s.regsAfterIndex form).get r = s.reg r := by
  have pair_other : ∀ ix w, r ≠ ix.lo ∧ r ≠ ix.hi → (s.regs.setPair ix w).get r = s.reg r := by
    rintro ix w ⟨hlo, hhi⟩
    rw [Regs.get_setPair, if_neg hlo, if_neg hhi, State.reg]
  cases form with
  | mem reg ea =>
    cases ea with
    | postinc ix _ => exact pair_other ix _ (h reg _ ix rfl rfl)
    | predec ix _ => exact pair_other ix _ (h reg _ ix rfl rfl)
    | direct _ => rfl
    | indexed _ _ => rfl
    | r3 _ => rfl
  | imm _ _ => rfl
  | regs _ _ _ => rfl

/-- Of a register other than `a` that the operation does not write, only the index update can change the value. -/
theorem State.reg_afterAlu_other (s : State) {form : AluForm} {o : AluOut} {r : Reg} (ha : r ≠ .a)
    (hd : o.write = true → r ≠ form.dest)
    (h : ∀ reg ea ix, form = .mem reg ea → ea.modifies = some ix → r ≠ ix.lo ∧ r ≠ ix.hi) :
    (s.afterAlu form o).reg r = s.reg r := by
  rw [← s.get_regsAfterIndex_other h]
  simp only [State.reg, State.afterAlu, Regs.get_set_other ha]
  split
  · next hw => exact Regs.get_set_other (hd hw)
  · rfl

/-- The compares and TSTB write no destination (42_arith.md R213, R214; 43_logic_shift.md R244). -/
theorem aluFn_write_of_compare {op : AluOp} (h : op = .cmp ∨ op = .cmpa ∨ op = .tstb) (x y : Byte) (f : Flags)
    (n : Nat) : (aluFn op x y f n).write = false := by
  rcases h with rfl | rfl | rfl <;> rfl

/-- The logical operations and the moves leave C and V (10_state.md R36). -/
theorem aluFn_keeps_carry_overflow {op : AluOp}
    (h : op = .and ∨ op = .or ∨ op = .xor ∨ op = .cpl1 ∨ op = .tstb ∨ op = .move ∨ op = .cmvd ∨ op = .cmvs)
    (x y : Byte) (f : Flags) (n : Nat) : (aluFn op x y f n).flags.c = f.c ∧ (aluFn op x y f n).flags.v = f.v := by
  rcases h with rfl | rfl | rfl | rfl | rfl | rfl | rfl | rfl <;> exact ⟨rfl, rfl⟩

/-- An ALU-class instruction that completes ends in the template's state, whose operation answers on the operands. -/
theorem exec_ofAlu_next {op : AluOp} {form : AluForm} {i : Instr} {s t : State} (hi : Instr.ofAlu op form = some i)
    (h : exec i s = .next t) : t = s.afterAlu form (s.aluOut (aluFn op) form) := by
  rw [exec_ofAlu hi] at h
  rw [(runAlu_next h).2, aluNext_eq]

/-- Settles O22: the template writes the modified pair, the destination, `a`, the flags and the pc. -/
theorem aluClassFrame : Obligations.AluClassFrame := by
  intro op form i s t hi h
  obtain rfl := exec_ofAlu_next hi h
  refine ⟨?_, ?_, ?_, rfl, rfl, rfl, rfl, rfl, rfl, rfl, fun a => State.byteAt_congr rfl a⟩
  · intro r ha hd hix
    exact s.reg_afterAlu_other ha (fun _ => hd) hix
  · intro ho ha hix
    have hw : (s.aluOut (aluFn op) form).write = false := aluFn_write_of_compare ho _ _ _ _
    exact s.reg_afterAlu_other ha (fun ht => absurd (hw.symm.trans ht) Bool.false_ne_true) hix
  · intro ho
    exact aluFn_keeps_carry_overflow ho _ _ _ _

end Sys2Proof.Machine
end

section
/-! SUPPORT. Data and program memory: which steps can change a memory, where the addressing modes point, and what a load and a
store leave behind in each kind of location (20_memory.md). -/

namespace Sys2Proof.Machine

/-! ### Program memory and the platform -/

/-- An instruction, an execute cycle of ROM mode and an interrupt entry leave program memory and the platform alone. -/
theorem State.runBoundary_keeps_pm_platform {s t : State} (h : s.runBoundary = .next t) :
    t.pm = s.pm ∧ t.platform = s.platform := by
  obtain ⟨-, rfl⟩ | ⟨-, ⟨k, -, rfl⟩ | ⟨-, ⟨-, hrom⟩ | ⟨-, hrun⟩⟩⟩ := State.runBoundary_next h
  · simp
  · simp
  · obtain ⟨-, w, -, rfl⟩ := State.romCycle_next hrom
    simp
  · obtain ⟨w, i, u, -, -, he, rfl⟩ := State.runInstruction_next hrun
    have hu := exec_same he
    simp [hu.pm, hu.platform]

/-- Settles O18: one case for a reset, for a shift cycle of the test interface, and for a boundary. -/
theorem stepNeverWritesProgramMemory : Obligations.StepNeverWritesProgramMemory := by
  intro s t h
  obtain ⟨-, rfl⟩ | ⟨-, -, rfl⟩ | ⟨-, hb⟩ := step_next h
  · simp
  · simp
  · simpa using State.runBoundary_keeps_pm_platform hb

/-! ### Data memory -/

@[simp] theorem storeOperand_store (reg : Reg) (ea : EAddr) : (Instr.store reg ea).storeOperand = some ea := by
  cases ea <;> rfl

theorem storeNext_dm (v : Byte) (ea : EAddr) (s : State) :
    (storeNext v ea s).dm = (s.writeData (s.address ea) v).dm := by
  simp [storeNext]

/-- Everything an instruction can do to data memory: nothing, or the write of one byte at the operand of the store it is. -/
theorem exec_dm {i : Instr} {s t : State} (h : exec i s = .next t) :
    t.dm = s.dm ∨ ∃ ea v, i.storeOperand = some ea ∧ t.dm = (s.writeData (s.address ea) v).dm := by
  rcases exec_next h with ⟨op, form, -, -, rfl⟩ | ⟨reg, ea, rfl, -, -, rfl⟩ | ⟨addr, data, rfl, rfl⟩ |
    ⟨c, tg, -, -, rfl⟩ | ⟨tg, -, -, -, rfl⟩ | ⟨tg, -, -, rfl⟩ | ⟨-, v, u, hp, rfl⟩ | ⟨-, hr⟩ | ⟨-, -, -, rfl⟩ |
    ⟨-, v, u, hp, rfl⟩ | ⟨-, hs⟩ | ⟨-, hh⟩ | ⟨-, rfl⟩ | ⟨on, -, -, rfl⟩ | ⟨divn, -, -, rfl⟩
  · rw [aluNext_eq]
    exact .inl rfl
  · exact .inr ⟨ea, _, storeOperand_store reg ea, storeNext_dm _ ea s⟩
  · exact .inr ⟨.direct addr, data, rfl, storeNext_dm data _ s⟩
  · exact .inl rfl
  · exact .inl rfl
  · exact .inl rfl
  · obtain ⟨-, rest, -, rfl⟩ := State.pop_eq_some.1 hp
    exact .inl rfl
  · obtain ⟨v, u, hp, rfl⟩ := State.interruptReturn_eq_some hr
    obtain ⟨-, rest, -, rfl⟩ := State.pop_eq_some.1 hp
    exact .inl rfl
  · exact .inl rfl
  · obtain ⟨-, rest, -, rfl⟩ := State.pop_eq_some.1 hp
    exact .inl rfl
  · rw [execSflag_next hs]
    exact .inl rfl
  · obtain rfl | ⟨held, n, rfl⟩ := execHalt_next hh <;> exact .inl rfl
  · exact .inl rfl
  · exact .inl rfl
  · exact .inl rfl

/-- Settles O21: an instruction writes data memory at its store operand alone, and a write changes the byte there alone. -/
theorem onlyStoresWriteDataMemory : Obligations.OnlyStoresWriteDataMemory := by
  intro i s t h a ha
  obtain hdm | ⟨ea, v, hea, hdm⟩ := exec_dm h
  · exact State.byteAt_congr hdm a
  · exact (State.byteAt_congr hdm a).trans (s.byteAt_writeData_other v (ha ea hea))

/-! ### Effective addresses and index updates -/

theorem toNat_add_zeroExtend {n : Nat} (x : Word) (o : BitVec n) (h : n ≤ 16) :
    (x + o.zeroExtend 16).toNat = (x.toNat + o.toNat) % 65536 := by
  rw [BitVec.toNat_add, BitVec.toNat_setWidth_of_le h]

theorem toNat_add_predecDisplacement (x : Word) (f : BitVec 7) :
    (x + predecDisplacement f).toNat = (x.toNat + (65408 + f.toNat)) % 65536 := by
  rw [← predecrement_eq, BitVec.toNat_ofInt]
  omega

/-- Settles O24: the sums of the addressing modes on numbers; the operands of a form are those its definition names. -/
theorem effectiveAddresses : Obligations.EffectiveAddresses := by
  intro s
  refine ⟨?direct, ?indexed, ?r3, ?postinc, ?predec, ?regs, ?imm, ?mem⟩
  case direct =>
    intro addr
    exact ⟨BitVec.toNat_setWidth_of_le (by decide), rfl⟩
  case indexed =>
    intro ix offset
    exact ⟨toNat_add_zeroExtend _ offset (by decide), rfl⟩
  case r3 =>
    intro ix
    exact ⟨toNat_add_zeroExtend _ (s.reg .r3) (by decide), rfl⟩
  case postinc =>
    intro ix offset
    refine ⟨rfl, ?_⟩
    rw [State.updateIndex, State.setPair_regs, Regs.pair_setPair]
    exact toNat_add_zeroExtend _ offset (by decide)
  case predec =>
    intro ix field
    exact ⟨toNat_add_predecDisplacement _ field, Regs.pair_setPair _ ix _⟩
  case regs =>
    intro res x y
    exact ⟨rfl, rfl, rfl, rfl, rfl, rfl, rfl, rfl, rfl, rfl⟩
  case imm =>
    intro reg data
    exact ⟨rfl, rfl, rfl⟩
  case mem =>
    intro reg ea
    exact ⟨rfl, rfl, rfl⟩

/-- The index update changes the registers alone. -/
theorem State.updateIndex_eq (s : State) (reg : Reg) (ea : EAddr) :
    s.updateIndex ea = { s with regs := s.regsAfterIndex (.mem reg ea) } := by
  rw [← State.regs_updateForm]
  cases ea <;> rfl

/-! ### Reading data memory -/

section
variable {s : State} {a : Word}

theorem State.readData_device (h : s.kindAt a = .device) : s.readData a = Config.freeByte s.draws := by
  simp [State.readData, h]

theorem State.readDraws_device (h : s.kindAt a = .device) : s.readDraws a = 1 := by
  simp [State.readDraws, h]

theorem State.readData_of_ne_device (h : s.kindAt a ≠ .device) : s.readData a = s.byteAt a := by
  unfold State.readData
  split
  · next hd => exact absurd hd h
  all_goals rfl

theorem State.readDraws_of_ne_device (h : s.kindAt a ≠ .device) : s.readDraws a = 0 := by
  unfold State.readDraws
  split
  · next hd => exact absurd hd h
  all_goals rfl

end

/-! ### Loads -/

theorem answers_move : Answers .move (fun x _ f _ => writesZ x f) := answers_of_fn fun _ _ _ _ => rfl

/-- An operation that writes its result to `a` too leaves it in the destination, also where that is `a`. -/
theorem State.reg_dest_afterAlu (s : State) {form : AluForm} {o : AluOut} (hw : o.write = true)
    (ho : o.acc = o.result) : (s.afterAlu form o).reg form.dest = o.result := by
  simp only [State.reg, State.afterAlu, hw, if_true, Regs.get_set, ho, ite_self]

theorem State.reg_a_afterAlu (s : State) (form : AluForm) (o : AluOut) : (s.afterAlu form o).reg .a = o.acc :=
  rfl

/-- A register that is neither the destination nor `a` ends as the index update leaves it. -/
theorem State.reg_afterAlu_of_ne (s : State) {form : AluForm} {o : AluOut} {r : Reg} (ha : r ≠ .a)
    (hd : r ≠ form.dest) : (s.afterAlu form o).reg r = (s.regsAfterIndex form).get r := by
  simp only [State.reg, State.afterAlu, Regs.get_set_other ha]
  split
  · exact Regs.get_set_other hd
  · rfl

/-- A load completes with the byte read in the destination and in `a`; the other registers end as the index update leaves
them (41_transfer.md R180, 20_memory.md R86). -/
theorem exec_load {s : State} {reg : Reg} {ea : EAddr} {i : Instr} (hi : Instr.ofAlu .move (.mem reg ea) = some i)
    (hz : s.HazardFree ea.sources) :
    ∃ t, exec i s = .next t ∧ t.reg reg = s.readData (s.address ea) ∧ t.reg .a = s.readData (s.address ea) ∧
      (∀ r, r ≠ .a → r ≠ reg → t.reg r = (s.regsAfterIndex (.mem reg ea)).get r) ∧
      t.draws = s.draws + s.readDraws (s.address ea) :=
  ⟨_, answers_move _ _ _ hi hz, s.reg_dest_afterAlu (form := .mem reg ea) rfl rfl, s.reg_a_afterAlu _ _,
    fun _ ha hd => s.reg_afterAlu_of_ne ha hd, rfl⟩

/-- What a load that completes leaves in its destination. -/
theorem reg_of_exec_load {s t : State} {reg : Reg} {ea : EAddr} {i : Instr}
    (hi : Instr.ofAlu .move (.mem reg ea) = some i) (h : exec i s = .next t) :
    t.reg reg = s.readData (s.address ea) := by
  rw [exec_ofAlu_next hi h]
  exact s.reg_dest_afterAlu (form := .mem reg ea) rfl rfl

/-! ### A load into a byte of the pair it modifies -/

theorem Ix.lo_ne_a (ix : Ix) : ix.lo ≠ .a := by cases ix <;> decide

theorem Ix.hi_ne_a (ix : Ix) : ix.hi ≠ .a := by cases ix <;> decide

theorem Regs.toNat_get_lo_setPair (rs : Regs) (ix : Ix) (w : Word) :
    ((rs.setPair ix w).get ix.lo).toNat = w.toNat % 256 := by
  rw [Regs.get_setPair, if_pos rfl]
  simp

theorem Regs.toNat_get_hi_setPair (rs : Regs) (ix : Ix) (w : Word) :
    ((rs.setPair ix w).get ix.hi).toNat = w.toNat / 256 := by
  have := w.isLt
  rw [Regs.get_setPair, if_neg (Ix.lo_ne_hi ix).symm, if_pos rfl, BitVec.extractLsb'_toNat, Nat.shiftRight_eq_div_pow]
  omega

/-- The two loads of a byte of the pair `ix` through an operand that modifies it to `w`: the byte not named ends as that of
`w`, the high one `high` or the low one `low` (20_memory.md R86). -/
theorem exec_loads_into_pair {s : State} {ix : Ix} {ea : EAddr} {w : Word} {i j : Instr} {high low : Nat}
    (hi : Instr.ofAlu .move (.mem ix.lo ea) = some i) (hj : Instr.ofAlu .move (.mem ix.hi ea) = some j)
    (hz : s.HazardFree ea.sources) (hw : ∀ reg, s.regsAfterIndex (.mem reg ea) = s.regs.setPair ix w)
    (hhigh : w.toNat / 256 = high) (hlow : w.toNat % 256 = low) :
    (∃ t, exec i s = .next t ∧ t.reg ix.lo = s.readData (s.address ea) ∧ t.reg .a = s.readData (s.address ea) ∧
      (t.reg ix.hi).toNat = high) ∧
    ∃ t, exec j s = .next t ∧ t.reg ix.hi = s.readData (s.address ea) ∧ t.reg .a = s.readData (s.address ea) ∧
      (t.reg ix.lo).toNat = low := by
  have hne := Ix.lo_ne_hi ix
  constructor
  · obtain ⟨t, ht, hreg, hacc, hother, -⟩ := exec_load hi hz
    refine ⟨t, ht, hreg, hacc, ?_⟩
    rw [hother _ (Ix.hi_ne_a ix) hne.symm, hw, Regs.toNat_get_hi_setPair, hhigh]
  · obtain ⟨t, ht, hreg, hacc, hother, -⟩ := exec_load hj hz
    refine ⟨t, ht, hreg, hacc, ?_⟩
    rw [hother _ (Ix.lo_ne_a ix) hne, hw, Regs.toNat_get_lo_setPair, hlow]

/-- Settles O25: the other byte of the pair is a byte of the sum the index update writes. -/
theorem loadIntoTheModifiedPair : Obligations.LoadIntoTheModifiedPair := by
  intro s ix hz
  refine ⟨fun o => ?postinc, fun f => ?predec⟩
  case postinc =>
    have hsum := BitVec.toNat_ofNat ((s.regs.pair ix).toNat + o.toNat) 16
    exact exec_loads_into_pair (ea := .postinc ix o) rfl rfl hz (fun _ => rfl) (by rw [hsum]) (by omega)
  case predec =>
    have hsum := toNat_add_predecDisplacement (s.regs.pair ix) f
    exact exec_loads_into_pair (ea := .predec ix f) rfl rfl hz
      (fun _ => congrArg (s.regs.setPair ix) (predecrement_eq _ f)) (by omega) (by omega)

/-! ### Stores -/

/-- The template of the stores on one record: a write of data memory, the index update, and the end of an instruction. -/
theorem storeNext_eq (v : Byte) (reg : Reg) (ea : EAddr) (s : State) :
    storeNext v ea s =
      s.endsAt { s.writeData (s.address ea) v with regs := s.regsAfterIndex (.mem reg ea) } (s.pc + 1) := by
  have hregs : (s.writeData (s.address ea) v).regsAfterIndex (.mem reg ea) = s.regsAfterIndex (.mem reg ea) := by
    cases ea <;> simp [State.regsAfterIndex]
  rw [storeNext, State.updateIndex_eq _ reg, hregs]
  rfl

theorem storesModified_eq_false {reg : Reg} {ea : EAddr} :
    storesModified reg ea = false ↔ ∀ ix, ea.modifies = some ix → reg ≠ ix.lo ∧ reg ≠ ix.hi := by
  unfold storesModified
  cases ea.modifies <;> simp

/-- Where no multiplication forbids the address, a store completes unless its source is a byte of the pair it modifies
(20_memory.md R87). -/
theorem exec_store_of_hazardFree {s : State} {reg : Reg} {ea : EAddr} (hz : s.HazardFree ea.sources) :
    exec (.store reg ea) s =
      if storesModified reg ea then .refused .storeOfModifiedIndex else .next (storeNext (s.reg reg) ea s) := by
  rw [exec_store, runStore, State.hazard_eq_false.2 hz]
  rfl

theorem exec_store_completes {s : State} {reg : Reg} {ea : EAddr} (hz : s.HazardFree ea.sources)
    (hm : ∀ ix, ea.modifies = some ix → reg ≠ ix.lo ∧ reg ≠ ix.hi) :
    exec (.store reg ea) s = .next
      (s.endsAt { s.writeData (s.address ea) (s.reg reg) with regs := s.regsAfterIndex (.mem reg ea) } (s.pc + 1)) := by
  rw [exec_store_of_hazardFree hz, storesModified_eq_false.2 hm, storeNext_eq _ reg]
  rfl

theorem State.writeData_device {s : State} {a : Word} (v : Byte) (h : s.kindAt a = .device) :
    s.writeData a v = { s with deviceLog := s.deviceLog ++ [(a.toNat, v)] } := by
  simp [State.writeData, h]

theorem State.writeData_unpopulated {s : State} {a : Word} (v : Byte) (h : s.kindAt a = .unpopulated) :
    s.writeData a v = { s.setByte a (Config.freeByte s.draws) with draws := s.draws + 1 } := by
  simp [State.writeData, h]

/-- Settles O41: a load and a store complete, and the kind of the location says what is read and what is written. -/
theorem devicesAndUnpopulatedAddresses : Obligations.DevicesAndUnpopulatedAddresses := by
  intro s reg ea hz
  refine ⟨?load, fun hm => ⟨?storeToDevice, ?storeToUnpopulated⟩⟩
  case load =>
    intro i hi
    obtain ⟨t, ht, hreg, -, -, hdraws⟩ := exec_load hi hz
    refine ⟨t, ht, fun hk => ?_, fun hk => ?_⟩
    · rw [hreg, hdraws, State.readData_device hk, State.readDraws_device hk]
      exact ⟨rfl, rfl⟩
    · rw [hreg, hdraws, State.readData_of_ne_device hk, State.readDraws_of_ne_device hk]
      exact ⟨rfl, rfl⟩
  case storeToDevice =>
    intro hk
    rw [exec_store_completes hz hm, State.writeData_device _ hk]
  case storeToUnpopulated =>
    intro hk
    rw [exec_store_completes hz hm, State.writeData_unpopulated _ hk]
    refine ⟨_, rfl, ?_, ?_, rfl⟩
    · exact (s.byteAt_setByte _ _ _).trans (if_pos rfl)
    · intro a ha
      exact (s.byteAt_setByte _ a _).trans (if_neg ha)

/-- Settles O42: the store leaves its source at the address, where RAM answers what it holds, and the load takes it there. -/
theorem storeThenLoadReturnsTheByte : Obligations.StoreThenLoadReturnsTheByte := by
  intro s u t reg dest ea la i hram hstore hi hsame hload
  have hkind : u.kindAt (s.address ea) = s.kindAt (s.address ea) := State.kindAt_congr (exec_same hstore).platform _
  have hmem : u.kindAt (s.address ea) ≠ .device := by
    rw [hkind]
    rcases hram with h | h <;> simp [h]
  rw [exec_store] at hstore
  obtain ⟨-, -, rfl⟩ := runStore_next hstore
  rw [reg_of_exec_load hi hload, hsame, State.readData_of_ne_device hmem,
    State.byteAt_congr (storeNext_dm (s.reg reg) ea s), State.byteAt_writeData_ram s _ hram]

/-! ### Refused instructions -/

theorem exec_store_of_modified {s : State} {reg : Reg} {ea : EAddr} {ix : Ix} (hz : s.HazardFree ea.sources)
    (hix : ea.modifies = some ix) (hreg : reg = ix.lo ∨ reg = ix.hi) :
    exec (.store reg ea) s = .refused .storeOfModifiedIndex := by
  have hm : storesModified reg ea = true := by
    rcases hreg with h | h <;> simp [storesModified, hix, h]
  rw [exec_store_of_hazardFree hz, if_pos hm]

/-- Exactly the five ratios of 30_encoding.md R115 are defined. -/
theorem divnDefined_iff (divn : BitVec 4) : divnDefined divn = true ↔
    divn = 0b0000 ∨ divn = 0b1000 ∨ divn = 0b1100 ∨ divn = 0b1110 ∨ divn = 0b1111 := by
  simp [divnDefined]

theorem exec_freq_reserved {divn : BitVec 4} {s : State} (h : ¬ divnDefined divn = true) :
    exec (.freq divn) s = .refused .reservedDivn :=
  if_neg h

/-- Settles O43: both modifying modes modify their pair, and a reserved ratio is none of the five defined. -/
theorem modifiedStoresAndReservedRatiosAreRefused : Obligations.ModifiedStoresAndReservedRatiosAreRefused := by
  refine ⟨fun s ix o hz => ⟨?_, ?_, ?_, ?_⟩, fun s divn h0 h8 hc he hf => exec_freq_reserved ?_⟩
  · exact exec_store_of_modified (ea := .postinc ix o) hz rfl (.inl rfl)
  · exact exec_store_of_modified (ea := .postinc ix o) hz rfl (.inr rfl)
  · exact exec_store_of_modified (ea := .predec ix o) hz rfl (.inl rfl)
  · exact exec_store_of_modified (ea := .predec ix o) hz rfl (.inr rfl)
  · rw [divnDefined_iff]
    simp only [h0, h8, hc, he, hf, or_self, not_false_eq_true]

end Sys2Proof.Machine
end

section
/-! SUPPORT. The instruction word as its fields: the layout of each format as an equivalence between a word and the values of
its fields, and one equation of the decoder for each row of the decoding table (30_encoding.md R102 to R111). -/

namespace Sys2Proof

/-! ### Fields of a word -/

theorem bitsAt_append (w : IWord) (lo m n : Nat) : bitsAt w lo (m + n) = bitsAt w (lo + n) m ++ bitsAt w lo n :=
  (BitVec.extractLsb'_append_extractLsb'_eq_extractLsb' rfl).symm

/-- A field holds two values side by side exactly if its two parts hold them. -/
theorem bitsAt_eq_append {w : IWord} {lo m n : Nat} {x : BitVec m} {y : BitVec n} :
    bitsAt w lo (m + n) = x ++ y ↔ bitsAt w (lo + n) m = x ∧ bitsAt w lo n = y := by
  rw [bitsAt_append]
  constructor
  · intro h
    have hx := congrArg (BitVec.extractLsb' n m) h
    have hy := congrArg (BitVec.extractLsb' 0 n) h
    simp only [BitVec.extractLsb'_append_eq_left, BitVec.extractLsb'_append_eq_right] at hx hy
    exact ⟨hx, hy⟩
  · rintro ⟨rfl, rfl⟩
    rfl

/-- A part of a field whose value is known (the bound is closed by `decide`). -/
theorem bitsAt_within {w : IWord} {lo n : Nat} {c : BitVec n} (h : bitsAt w lo n = c) (k len : Nat) (hk : k + len ≤ n) :
    bitsAt w (lo + k) len = c.extractLsb' k len := by
  rw [← h]
  apply BitVec.eq_of_getLsbD_eq
  intro i hi
  have hn : k + i < n := by omega
  simp only [bitsAt, BitVec.getLsbD_extractLsb', hi, hn, decide_true, Bool.true_and, Nat.add_assoc]

theorem eq_iff_bitsAt {w v : IWord} : v = w ↔ bitsAt w 0 22 = v := by
  rw [bitsAt, BitVec.extractLsb'_eq_self, eq_comm]

section
variable {k l m n o p : Nat} (w : IWord) (u : BitVec k) (v : BitVec l) (x : BitVec m) (y : BitVec n) (z : BitVec o)
  (t : BitVec p)

theorem bitsAt_eq_append3 : bitsAt w 0 (k + l + m) = u ++ v ++ x ↔
    bitsAt w (0 + m + l) k = u ∧ bitsAt w (0 + m) l = v ∧ bitsAt w 0 m = x := by
  simp only [bitsAt_eq_append, and_assoc]

theorem bitsAt_eq_append4 : bitsAt w 0 (k + l + m + n) = u ++ v ++ x ++ y ↔
    bitsAt w (0 + n + m + l) k = u ∧ bitsAt w (0 + n + m) l = v ∧ bitsAt w (0 + n) m = x ∧ bitsAt w 0 n = y := by
  rw [bitsAt_eq_append, bitsAt_eq_append, bitsAt_eq_append, and_assoc, and_assoc]

theorem bitsAt_eq_append5 : bitsAt w 0 (k + l + m + n + o) = u ++ v ++ x ++ y ++ z ↔
    bitsAt w (0 + o + n + m + l) k = u ∧ bitsAt w (0 + o + n + m) l = v ∧ bitsAt w (0 + o + n) m = x ∧
      bitsAt w (0 + o) n = y ∧ bitsAt w 0 o = z := by
  simp only [bitsAt_eq_append, and_assoc]

theorem bitsAt_eq_append6 : bitsAt w 0 (k + l + m + n + o + p) = u ++ v ++ x ++ y ++ z ++ t ↔
    bitsAt w (0 + p + o + n + m + l) k = u ∧ bitsAt w (0 + p + o + n + m) l = v ∧ bitsAt w (0 + p + o + n) m = x ∧
      bitsAt w (0 + p + o) n = y ∧ bitsAt w (0 + p) o = z ∧ bitsAt w 0 p = t := by
  simp only [bitsAt_eq_append, and_assoc]

end

/-! ### The layout of each format -/

section
variable {w : IWord} {op : AluOp} {reg : Reg} {ix : Ix}

/-- Format 6 (30_encoding.md R108). -/
theorem encodeAlu_direct_iff {addr : Byte} : encodeAlu op (.mem reg (.direct addr)) = w ↔
    bitsAt w 17 5 = 0b00010#5 ∧ bitsAt w 12 5 = op.code ∧ bitsAt w 8 4 = reg.code ∧ bitsAt w 0 8 = ~~~addr :=
  eq_iff_bitsAt.trans (bitsAt_eq_append4 w 0b00010#5 op.code reg.code (~~~addr))

/-- Format 1 (30_encoding.md R103). -/
theorem encodeAlu_indexed_iff {offset : Byte} : encodeAlu op (.mem reg (.indexed ix offset)) = w ↔
    bitsAt w 19 3 = 0b011#3 ∧ bitsAt w 17 2 = ix.code ∧ bitsAt w 12 5 = op.code ∧ bitsAt w 8 4 = reg.code ∧
      bitsAt w 0 8 = offset :=
  eq_iff_bitsAt.trans (bitsAt_eq_append5 w 0b011#3 ix.code op.code reg.code offset)

/-- Format 2, `P` clear (30_encoding.md R104). -/
theorem encodeAlu_postinc_iff {offset : BitVec 7} : encodeAlu op (.mem reg (.postinc ix offset)) = w ↔
    bitsAt w 19 3 = 0b010#3 ∧ bitsAt w 17 2 = ix.code ∧ bitsAt w 12 5 = op.code ∧ bitsAt w 8 4 = reg.code ∧
      bitsAt w 7 1 = 0b0#1 ∧ bitsAt w 0 7 = offset :=
  eq_iff_bitsAt.trans (bitsAt_eq_append6 w 0b010#3 ix.code op.code reg.code 0b0#1 offset)

/-- Format 2, `P` set (30_encoding.md R104). -/
theorem encodeAlu_predec_iff {field : BitVec 7} : encodeAlu op (.mem reg (.predec ix field)) = w ↔
    bitsAt w 19 3 = 0b010#3 ∧ bitsAt w 17 2 = ix.code ∧ bitsAt w 12 5 = op.code ∧ bitsAt w 8 4 = reg.code ∧
      bitsAt w 7 1 = 0b1#1 ∧ bitsAt w 0 7 = field :=
  eq_iff_bitsAt.trans (bitsAt_eq_append6 w 0b010#3 ix.code op.code reg.code 0b1#1 field)

/-- Format 5 (30_encoding.md R107). -/
theorem encodeAlu_r3_iff : encodeAlu op (.mem reg (.r3 ix)) = w ↔
    bitsAt w 17 5 = 0b00011#5 ∧ bitsAt w 12 5 = op.code ∧ bitsAt w 8 4 = reg.code ∧ bitsAt w 2 6 = 0b111111#6 ∧
      bitsAt w 0 2 = ix.code :=
  eq_iff_bitsAt.trans (bitsAt_eq_append5 w 0b00011#5 op.code reg.code 0b111111#6 ix.code)

/-- Format 3 (30_encoding.md R105). -/
theorem encodeAlu_imm_iff {data : Byte} : encodeAlu op (.imm reg data) = w ↔
    bitsAt w 16 6 = 0b001110#6 ∧ bitsAt w 12 4 = op.code.extractLsb' 0 4 ∧ bitsAt w 8 4 = reg.code ∧
      bitsAt w 0 8 = ~~~data :=
  eq_iff_bitsAt.trans (bitsAt_eq_append4 w 0b001110#6 (op.code.extractLsb' 0 4) reg.code (~~~data))

/-- Format 4 (30_encoding.md R106). -/
theorem encodeAlu_regs_iff {res op1 op2 : Reg} : encodeAlu op (.regs res op1 op2) = w ↔
    bitsAt w 17 5 = 0b00110#5 ∧ bitsAt w 12 5 = op.code ∧ bitsAt w 8 4 = op2.code ∧ bitsAt w 4 4 = op1.code ∧
      bitsAt w 0 4 = res.code :=
  eq_iff_bitsAt.trans (bitsAt_eq_append5 w 0b00110#5 op.code op2.code op1.code res.code)

/-- Format 11 (30_encoding.md R110). -/
theorem encode_moveToDirectImm_iff {addr data : Byte} : encode (.moveToDirectImm addr data) = w ↔
    bitsAt w 16 6 = 0b000000#6 ∧ bitsAt w 8 8 = ~~~data ∧ bitsAt w 0 8 = ~~~addr :=
  eq_iff_bitsAt.trans (bitsAt_eq_append3 w 0b000000#6 (~~~data) (~~~addr))

/-- Format 10 (30_encoding.md R110). -/
theorem encodeStore_direct_iff {addr : Byte} : encodeStore reg (.direct addr) = w ↔
    bitsAt w 12 10 = 0b0000011011#10 ∧ bitsAt w 8 4 = reg.code ∧ bitsAt w 0 8 = ~~~addr :=
  eq_iff_bitsAt.trans (bitsAt_eq_append3 w 0b0000011011#10 reg.code (~~~addr))

/-- Format 9 (30_encoding.md R110). -/
theorem encodeStore_indexed_iff {offset : Byte} : encodeStore reg (.indexed ix offset) = w ↔
    bitsAt w 14 8 = 0b00001011#8 ∧ bitsAt w 12 2 = ix.code ∧ bitsAt w 8 4 = reg.code ∧ bitsAt w 0 8 = offset :=
  eq_iff_bitsAt.trans (bitsAt_eq_append4 w 0b00001011#8 ix.code reg.code offset)

/-- Format 8, `P` clear (30_encoding.md R110). -/
theorem encodeStore_postinc_iff {offset : BitVec 7} : encodeStore reg (.postinc ix offset) = w ↔
    bitsAt w 14 8 = 0b00001101#8 ∧ bitsAt w 12 2 = ix.code ∧ bitsAt w 8 4 = reg.code ∧ bitsAt w 7 1 = 0b0#1 ∧
      bitsAt w 0 7 = offset :=
  eq_iff_bitsAt.trans (bitsAt_eq_append5 w 0b00001101#8 ix.code reg.code 0b0#1 offset)

/-- Format 8, `P` set (30_encoding.md R110). -/
theorem encodeStore_predec_iff {field : BitVec 7} : encodeStore reg (.predec ix field) = w ↔
    bitsAt w 14 8 = 0b00001101#8 ∧ bitsAt w 12 2 = ix.code ∧ bitsAt w 8 4 = reg.code ∧ bitsAt w 7 1 = 0b1#1 ∧
      bitsAt w 0 7 = field :=
  eq_iff_bitsAt.trans (bitsAt_eq_append5 w 0b00001101#8 ix.code reg.code 0b1#1 field)

/-- Format 7 (30_encoding.md R110). -/
theorem encodeStore_r3_iff : encodeStore reg (.r3 ix) = w ↔
    bitsAt w 14 8 = 0b00001110#8 ∧ bitsAt w 12 2 = ix.code ∧ bitsAt w 8 4 = reg.code ∧ bitsAt w 0 8 = 0xFF#8 :=
  eq_iff_bitsAt.trans (bitsAt_eq_append4 w 0b00001110#8 ix.code reg.code 0xFF#8)

theorem encodeJcc_abs_iff {c : Cond} {addr : Word} : encodeJcc c (.abs addr) = w ↔
    bitsAt w 19 3 = 0b110#3 ∧ bitsAt w 16 3 = c.code ∧ bitsAt w 0 16 = ~~~addr :=
  eq_iff_bitsAt.trans (bitsAt_eq_append3 w 0b110#3 c.code (~~~addr))

theorem encodeJcc_ip_iff {c : Cond} : encodeJcc c .ip = w ↔
    bitsAt w 19 3 = 0b100#3 ∧ bitsAt w 16 3 = c.code ∧ bitsAt w 0 16 = 0xFFFF#16 :=
  eq_iff_bitsAt.trans (bitsAt_eq_append3 w 0b100#3 c.code 0xFFFF#16)

theorem encode_call_abs_iff {addr : Word} : encode (.call (.abs addr)) = w ↔
    bitsAt w 16 6 = 0b111001#6 ∧ bitsAt w 0 16 = ~~~addr :=
  eq_iff_bitsAt.trans (bitsAt_eq_append (x := 0b111001#6) (y := ~~~addr))

theorem encode_calls_abs_iff {addr : Word} : encode (.calls (.abs addr)) = w ↔
    bitsAt w 16 6 = 0b111010#6 ∧ bitsAt w 0 16 = ~~~addr :=
  eq_iff_bitsAt.trans (bitsAt_eq_append (x := 0b111010#6) (y := ~~~addr))

theorem encode_call_ip_iff : encode (.call .ip) = w ↔ bitsAt w 16 6 = 0b101001#6 ∧ bitsAt w 0 16 = 0xFFFF#16 :=
  eq_iff_bitsAt.trans (bitsAt_eq_append (x := 0b101001#6) (y := 0xFFFF#16))

theorem encode_calls_ip_iff : encode (.calls .ip) = w ↔ bitsAt w 16 6 = 0b101010#6 ∧ bitsAt w 0 16 = 0xFFFF#16 :=
  eq_iff_bitsAt.trans (bitsAt_eq_append (x := 0b101010#6) (y := 0xFFFF#16))

theorem encode_push_iff : encode .push = w ↔ bitsAt w 16 6 = 0b101101#6 ∧ bitsAt w 0 16 = 0xFFFF#16 :=
  eq_iff_bitsAt.trans (bitsAt_eq_append (x := 0b101101#6) (y := 0xFFFF#16))

theorem encode_sflag_iff : encode .sflag = w ↔ bitsAt w 12 10 = 0b0010110111#10 ∧ bitsAt w 0 12 = 0xFFF#12 :=
  eq_iff_bitsAt.trans (bitsAt_eq_append (x := 0b0010110111#10) (y := 0xFFF#12))

theorem encode_halt_iff : encode .halt = w ↔ bitsAt w 12 10 = 0b0010111101#10 ∧ bitsAt w 0 12 = 0xFFF#12 :=
  eq_iff_bitsAt.trans (bitsAt_eq_append (x := 0b0010111101#10) (y := 0xFFF#12))

theorem encode_freq_iff {divn : BitVec 4} : encode (.freq divn) = w ↔
    bitsAt w 12 10 = 0b0010111011#10 ∧ bitsAt w 4 8 = 0xFF#8 ∧ bitsAt w 0 4 = divn :=
  eq_iff_bitsAt.trans (bitsAt_eq_append3 w 0b0010111011#10 0xFF#8 divn)

theorem encode_pmd_iff {on : Bool} : encode (.pmd on) = w ↔
    bitsAt w 12 10 = 0b0010111110#10 ∧ bitsAt w 9 3 = 0b111#3 ∧ bitsAt w 8 1 = BitVec.ofBool on ∧
      bitsAt w 0 8 = 0xFF#8 :=
  eq_iff_bitsAt.trans (bitsAt_eq_append4 w 0b0010111110#10 0b111#3 (BitVec.ofBool on) 0xFF#8)

end

/-! ### The decoder, row by row -/

section
variable {w : IWord}

theorem decode_direct (h : bitsAt w 17 5 = 0b00010#5) : decode w = decodeMemory w (.direct (~~~bitsAt w 0 8)) := by
  have h19 : bitsAt w 19 3 = 0b000#3 := bitsAt_within h 2 3 (by decide)
  have h17 : bitsAt w 17 2 = 0b10#2 := bitsAt_within h 0 2 (by decide)
  delta decode decode000
  rw [h19, h17]
  rfl

theorem decode_r3 (h : bitsAt w 17 5 = 0b00011#5) :
    decode w = if bitsAt w 2 6 = 0b111111#6 then decodeMemory w (.r3 (Ix.ofCode (bitsAt w 0 2))) else none := by
  have h19 : bitsAt w 19 3 = 0b000#3 := bitsAt_within h 2 3 (by decide)
  have h17 : bitsAt w 17 2 = 0b11#2 := bitsAt_within h 0 2 (by decide)
  delta decode decode000
  rw [h19, h17]
  rfl

theorem decode_modified (h : bitsAt w 19 3 = 0b010#3) :
    decode w = decodeMemory w (modifiedOperand (Ix.ofCode (bitsAt w 17 2)) w) := by
  delta decode
  rw [h]
  rfl

theorem decode_indexed (h : bitsAt w 19 3 = 0b011#3) :
    decode w = decodeMemory w (.indexed (Ix.ofCode (bitsAt w 17 2)) (bitsAt w 0 8)) := by
  delta decode
  rw [h]
  rfl

theorem decode_imm (h : bitsAt w 16 6 = 0b001110#6) : decode w = decodeImmediate w := by
  have h19 : bitsAt w 19 3 = 0b001#3 := bitsAt_within h 3 3 (by decide)
  have h17 : bitsAt w 17 2 = 0b11#2 := bitsAt_within h 1 2 (by decide)
  have h16 : bitsAt w 16 1 = 0b0#1 := bitsAt_within h 0 1 (by decide)
  delta decode decode001
  rw [h19, h17, h16]
  rfl

/-- Bit 16 set above the code of format 3 is no row (30_encoding.md R142). -/
theorem decode_imm_bit16 (h : bitsAt w 16 6 = 0b001111#6) : decode w = none := by
  have h19 : bitsAt w 19 3 = 0b001#3 := bitsAt_within h 3 3 (by decide)
  have h17 : bitsAt w 17 2 = 0b11#2 := bitsAt_within h 1 2 (by decide)
  have h16 : bitsAt w 16 1 = 0b1#1 := bitsAt_within h 0 1 (by decide)
  delta decode decode001
  rw [h19, h17, h16]
  rfl

theorem decode_regs (h : bitsAt w 17 5 = 0b00110#5) : decode w = decodeRegisters w := by
  have h19 : bitsAt w 19 3 = 0b001#3 := bitsAt_within h 2 3 (by decide)
  have h17 : bitsAt w 17 2 = 0b10#2 := bitsAt_within h 0 2 (by decide)
  delta decode decode001
  rw [h19, h17]
  rfl

theorem decode_special (h : bitsAt w 17 5 = 0b00101#5) : decode w = decodeSpecial w := by
  have h19 : bitsAt w 19 3 = 0b001#3 := bitsAt_within h 2 3 (by decide)
  have h17 : bitsAt w 17 2 = 0b01#2 := bitsAt_within h 0 2 (by decide)
  delta decode decode001
  rw [h19, h17]
  rfl

theorem decode_store (h : bitsAt w 18 4 = 0b0000#4) : decode w = decodeStore w := by
  have h19 : bitsAt w 19 3 = 0b000#3 := bitsAt_within h 1 3 (by decide)
  have h18 : bitsAt w 18 1 = 0b0#1 := bitsAt_within h 0 1 (by decide)
  rcases BitVec.eq_zero_or_eq_one (bitsAt w 17 1) with h17 | h17
  · have hs : bitsAt w 17 2 = 0b00#2 := bitsAt_eq_append.mpr ⟨h18, h17⟩
    delta decode decode000
    rw [h19, hs]
    rfl
  · have hs : bitsAt w 17 2 = 0b01#2 := bitsAt_eq_append.mpr ⟨h18, h17⟩
    delta decode decode000
    rw [h19, hs]
    rfl

theorem decodeStore_indexed (h : bitsAt w 14 8 = 0b00001011#8) : decodeStore w =
    some (.store (Reg.ofCode (bitsAt w 8 4)) (.indexed (Ix.ofCode (bitsAt w 12 2)) (bitsAt w 0 8))) := by
  have h16 : bitsAt w 16 2 = 0b10#2 := bitsAt_within h 2 2 (by decide)
  have h14 : bitsAt w 14 3 = 0b011#3 := bitsAt_within h 0 3 (by decide)
  delta decodeStore
  rw [h16, h14]
  rfl

theorem decodeStore_modified (h : bitsAt w 14 8 = 0b00001101#8) : decodeStore w =
    some (.store (Reg.ofCode (bitsAt w 8 4)) (modifiedOperand (Ix.ofCode (bitsAt w 12 2)) w)) := by
  have h16 : bitsAt w 16 2 = 0b11#2 := bitsAt_within h 2 2 (by decide)
  have h14 : bitsAt w 14 3 = 0b101#3 := bitsAt_within h 0 3 (by decide)
  delta decodeStore
  rw [h16, h14]
  rfl

theorem decodeStore_r3 (h : bitsAt w 14 8 = 0b00001110#8) : decodeStore w =
    if bitsAt w 0 8 = 0xFF#8 then some (.store (Reg.ofCode (bitsAt w 8 4)) (.r3 (Ix.ofCode (bitsAt w 12 2))))
    else none := by
  have h16 : bitsAt w 16 2 = 0b11#2 := bitsAt_within h 2 2 (by decide)
  have h14 : bitsAt w 14 3 = 0b110#3 := bitsAt_within h 0 3 (by decide)
  delta decodeStore
  rw [h16, h14]
  rfl

theorem decode_jcc_abs (h : bitsAt w 19 3 = 0b110#3) :
    decode w = some (.jcc (Cond.ofCode (bitsAt w 16 3)) (.abs (~~~bitsAt w 0 16))) := by
  delta decode
  rw [h]
  rfl

theorem decode_jcc_ip (h : bitsAt w 19 3 = 0b100#3) (h0 : bitsAt w 0 16 = 0xFFFF#16) :
    decode w = some (.jcc (Cond.ofCode (bitsAt w 16 3)) .ip) := by
  delta decode
  rw [h, h0]
  rfl

theorem decode_call_abs (h : bitsAt w 16 6 = 0b111001#6) : decode w = some (.call (.abs (~~~bitsAt w 0 16))) := by
  have h19 : bitsAt w 19 3 = 0b111#3 := bitsAt_within h 3 3 (by decide)
  have h16 : bitsAt w 16 3 = 0b001#3 := bitsAt_within h 0 3 (by decide)
  delta decode decode111
  rw [h19, h16]
  rfl

theorem decode_calls_abs (h : bitsAt w 16 6 = 0b111010#6) : decode w = some (.calls (.abs (~~~bitsAt w 0 16))) := by
  have h19 : bitsAt w 19 3 = 0b111#3 := bitsAt_within h 3 3 (by decide)
  have h16 : bitsAt w 16 3 = 0b010#3 := bitsAt_within h 0 3 (by decide)
  delta decode decode111
  rw [h19, h16]
  rfl

/-! ### The decoders of a format -/

theorem modifiedOperand_postinc (ix : Ix) (h : bitsAt w 7 1 = 0b0#1) :
    modifiedOperand ix w = .postinc ix (bitsAt w 0 7) := by
  delta modifiedOperand
  rw [h]
  rfl

theorem modifiedOperand_predec (ix : Ix) (h : bitsAt w 7 1 = 0b1#1) :
    modifiedOperand ix w = .predec ix (bitsAt w 0 7) := by
  delta modifiedOperand
  rw [h]
  rfl

/-- No code names `TSTB` in the formats of a memory operand and of registers (30_encoding.md R112). -/
theorem decodeMemory_eq {op : AluOp} {reg : Reg} (hop : op ≠ .tstb) (h12 : bitsAt w 12 5 = op.code)
    (h8 : bitsAt w 8 4 = reg.code) (ea : EAddr) : decodeMemory w ea = Instr.ofAlu op (.mem reg ea) := by
  simp only [decodeMemory, h12, h8, AluOp.ofCode_code hop, Reg.ofCode_code]

end

end Sys2Proof
end

section
/-! SUPPORT. Decoding an encoded word: one lemma for each class of instruction, each from the layout of its format and the row
of the decoder that reads it. -/

namespace Sys2Proof

/-! ### ALU-class instructions -/

theorem ne_tstb_of_ofAlu_mem {op : AluOp} {reg : Reg} {ea : EAddr} {i : Instr}
    (h : Instr.ofAlu op (.mem reg ea) = some i) : op ≠ .tstb := by
  rintro rfl
  cases h

theorem ne_tstb_of_ofAlu_regs {op : AluOp} {res op1 op2 : Reg} {i : Instr}
    (h : Instr.ofAlu op (.regs res op1 op2) = some i) : op ≠ .tstb := by
  rintro rfl
  cases h

theorem decode_encodeAlu_mem {op : AluOp} (hop : op ≠ .tstb) (reg : Reg) (ea : EAddr) :
    decode (encodeAlu op (.mem reg ea)) = Instr.ofAlu op (.mem reg ea) := by
  generalize hw : encodeAlu op (.mem reg ea) = w
  cases ea with
  | direct addr =>
    obtain ⟨h17, h12, h8, h0⟩ := encodeAlu_direct_iff.mp hw
    rw [decode_direct h17, decodeMemory_eq hop h12 h8, h0, BitVec.not_not]
  | indexed ix offset =>
    obtain ⟨h19, h17, h12, h8, h0⟩ := encodeAlu_indexed_iff.mp hw
    rw [decode_indexed h19, decodeMemory_eq hop h12 h8, h17, h0, Ix.ofCode_code]
  | postinc ix offset =>
    obtain ⟨h19, h17, h12, h8, h7, h0⟩ := encodeAlu_postinc_iff.mp hw
    rw [decode_modified h19, decodeMemory_eq hop h12 h8, modifiedOperand_postinc _ h7, h17, h0, Ix.ofCode_code]
  | predec ix field =>
    obtain ⟨h19, h17, h12, h8, h7, h0⟩ := encodeAlu_predec_iff.mp hw
    rw [decode_modified h19, decodeMemory_eq hop h12 h8, modifiedOperand_predec _ h7, h17, h0, Ix.ofCode_code]
  | r3 ix =>
    obtain ⟨h17, h12, h8, h2, h0⟩ := encodeAlu_r3_iff.mp hw
    rw [decode_r3 h17, if_pos h2, decodeMemory_eq hop h12 h8, h0, Ix.ofCode_code]

theorem decode_encodeAlu_imm {op : AluOp} {reg : Reg} {data : Byte} {i : Instr}
    (h : Instr.ofAlu op (.imm reg data) = some i) : decode (encodeAlu op (.imm reg data)) = some i := by
  generalize hw : encodeAlu op (.imm reg data) = w
  obtain ⟨h16, h12, h8, h0⟩ := encodeAlu_imm_iff.mp hw
  have hop : AluOp.ofImmediateCode (op.code.extractLsb' 0 4) = some op :=
    AluOp.ofImmediateCode_code (h ▸ Option.some_ne_none i)
  simp only [decode_imm h16, decodeImmediate, h12, hop, h8, h0, Reg.ofCode_code, BitVec.not_not, h]

/-- Where bits 11 to 8 are fixed to ones, the canonical word holds the code of `a` there (30_encoding.md R120). -/
theorem decode_encodeAlu_regs {op : AluOp} (hop : op ≠ .tstb) {res op1 op2 : Reg}
    (hones : op.fixedOnes = true → op2 = .a) :
    decode (encodeAlu op (.regs res op1 op2)) = Instr.ofAlu op (.regs res op1 op2) := by
  generalize hw : encodeAlu op (.regs res op1 op2) = w
  obtain ⟨h17, h12, h8, h4, h0⟩ := encodeAlu_regs_iff.mp hw
  have hbits : ¬ (op.fixedOnes && op2.code != 0b1111#4) = true := by
    intro hb
    obtain ⟨hf, hne⟩ := Bool.and_eq_true_iff.mp hb
    rw [hones hf] at hne
    cases hne
  simp only [decode_regs h17, decodeRegisters, h12, AluOp.ofCode_code hop, h8, h4, h0, if_neg hbits, Reg.ofCode_code]

theorem decode_encodeAlu {op : AluOp} {form : AluForm} {i : Instr} (h : Instr.ofAlu op form = some i)
    (hones : op.fixedOnes = true → ∀ res op1 op2, form = .regs res op1 op2 → op2 = .a) :
    decode (encodeAlu op form) = some i := by
  cases form with
  | mem reg ea => rw [decode_encodeAlu_mem (ne_tstb_of_ofAlu_mem h), h]
  | imm reg data => exact decode_encodeAlu_imm h
  | regs res op1 op2 =>
    rw [decode_encodeAlu_regs (ne_tstb_of_ofAlu_regs h) fun hf => hones hf _ _ _ rfl, h]

/-! ### Stores -/

theorem decode_encodeStore (reg : Reg) (ea : EAddr) : decode (encodeStore reg ea) = some (.store reg ea) := by
  generalize hw : encodeStore reg ea = w
  cases ea with
  | direct addr =>
    obtain ⟨h12, h8, h0⟩ := encodeStore_direct_iff.mp hw
    have h16 : bitsAt w 16 2 = 0b01#2 := bitsAt_within h12 4 2 (by decide)
    have hd : bitsAt w 12 4 = 0b1011#4 := bitsAt_within h12 0 4 (by decide)
    rw [decode_store (bitsAt_within h12 6 4 (by decide))]
    simp only [decodeStore, h16, hd, h8, h0, Reg.ofCode_code, BitVec.not_not, if_true]
  | indexed ix offset =>
    obtain ⟨h14, h12, h8, h0⟩ := encodeStore_indexed_iff.mp hw
    rw [decode_store (bitsAt_within h14 4 4 (by decide)), decodeStore_indexed h14, h12, h8, h0, Reg.ofCode_code,
      Ix.ofCode_code]
  | postinc ix offset =>
    obtain ⟨h14, h12, h8, h7, h0⟩ := encodeStore_postinc_iff.mp hw
    rw [decode_store (bitsAt_within h14 4 4 (by decide)), decodeStore_modified h14, modifiedOperand_postinc _ h7, h12,
      h8, h0, Reg.ofCode_code, Ix.ofCode_code]
  | predec ix field =>
    obtain ⟨h14, h12, h8, h7, h0⟩ := encodeStore_predec_iff.mp hw
    rw [decode_store (bitsAt_within h14 4 4 (by decide)), decodeStore_modified h14, modifiedOperand_predec _ h7, h12,
      h8, h0, Reg.ofCode_code, Ix.ofCode_code]
  | r3 ix =>
    obtain ⟨h14, h12, h8, h0⟩ := encodeStore_r3_iff.mp hw
    rw [decode_store (bitsAt_within h14 4 4 (by decide)), decodeStore_r3 h14, if_pos h0, h12, h8, Reg.ofCode_code,
      Ix.ofCode_code]

theorem decode_encode_moveToDirectImm (addr data : Byte) :
    decode (encode (.moveToDirectImm addr data)) = some (.moveToDirectImm addr data) := by
  generalize hw : encode (.moveToDirectImm addr data) = w
  obtain ⟨h16, h8, h0⟩ := encode_moveToDirectImm_iff.mp hw
  have hs : bitsAt w 16 2 = 0b00#2 := bitsAt_within h16 0 2 (by decide)
  rw [decode_store (bitsAt_within h16 2 4 (by decide))]
  simp only [decodeStore, hs, h8, h0, BitVec.not_not]

/-! ### Jumps and calls -/

theorem decode_encodeJcc (c : Cond) (t : Target) : decode (encodeJcc c t) = some (.jcc c t) := by
  generalize hw : encodeJcc c t = w
  cases t with
  | abs addr =>
    obtain ⟨h19, h16, h0⟩ := encodeJcc_abs_iff.mp hw
    rw [decode_jcc_abs h19, h16, h0, BitVec.not_not, Cond.ofCode_code]
  | ip =>
    obtain ⟨h19, h16, h0⟩ := encodeJcc_ip_iff.mp hw
    rw [decode_jcc_ip h19 h0, h16, Cond.ofCode_code]

theorem decode_encode_call (t : Target) : decode (encode (.call t)) = some (.call t) := by
  cases t with
  | abs addr =>
    obtain ⟨h16, h0⟩ := encode_call_abs_iff.mp (Eq.refl (encode (.call (.abs addr))))
    rw [decode_call_abs h16, h0, BitVec.not_not]
  | ip => decide

theorem decode_encode_calls (t : Target) : decode (encode (.calls t)) = some (.calls t) := by
  cases t with
  | abs addr =>
    obtain ⟨h16, h0⟩ := encode_calls_abs_iff.mp (Eq.refl (encode (.calls (.abs addr))))
    rw [decode_calls_abs h16, h0, BitVec.not_not]
  | ip => decide

/-! ### Special instructions -/

theorem decode_encode_pmd : ∀ on : Bool, decode (encode (.pmd on)) = some (.pmd on) := by decide

theorem decode_encode_freq : ∀ divn : BitVec 4, decode (encode (.freq divn)) = some (.freq divn) := by decide

/-- Settles O1: every instruction is of one of the classes of `Laws.classified`, and each class is read back. -/
theorem decodeOfEncodeIsTheInstruction : Obligations.DecodeOfEncodeIsTheInstruction := by
  intro i
  rcases Laws.classified i with ⟨op, form, h, he, hones⟩ | ⟨reg, ea, rfl, he⟩ | ⟨addr, data, rfl⟩ | ⟨c, t, rfl, he⟩ |
    ⟨t, rfl⟩ | ⟨t, rfl⟩ | halone | ⟨on, rfl⟩ | ⟨divn, rfl⟩
  · rw [he, decode_encodeAlu h hones]
  · rw [he, decode_encodeStore]
  · exact decode_encode_moveToDirectImm addr data
  · rw [he, decode_encodeJcc]
  · exact decode_encode_call t
  · exact decode_encode_calls t
  · rcases halone with rfl | rfl | rfl | rfl | rfl | rfl | rfl <;> decide
  · exact decode_encode_pmd on
  · exact decode_encode_freq divn

end Sys2Proof
end

section
/-! SUPPORT. What a word that decodes must look like: the code tables read the other way, and for each part of the decoder the
word it accepts, which is the encoded word of the instruction but for the bits a format 4 instruction ignores. -/

namespace Sys2Proof

/-! ### The code tables -/

@[simp] theorem Reg.code_ofCode : ∀ c : BitVec 4, (Reg.ofCode c).code = c := by decide

@[simp] theorem Ix.code_ofCode : ∀ c : BitVec 2, (Ix.ofCode c).code = c := by decide

@[simp] theorem Cond.code_ofCode : ∀ c : BitVec 3, (Cond.ofCode c).code = c := by decide

theorem AluOp.code_of_ofCode : ∀ {c : BitVec 5} {op : AluOp}, AluOp.ofCode c = some op → op.code = c := by
  have h : ∀ c : BitVec 5, ∀ op ∈ AluOp.ofCode c, op.code = c := by decide
  exact fun {c op} hop => h c op hop

theorem AluOp.code_of_ofImmediateCode :
    ∀ {c : BitVec 4} {op : AluOp}, AluOp.ofImmediateCode c = some op → op.code.extractLsb' 0 4 = c := by
  have h : ∀ c : BitVec 4, ∀ op ∈ AluOp.ofImmediateCode c, op.code.extractLsb' 0 4 = c := by decide
  exact fun {c op} hop => h c op hop

theorem bitsAt_one (w : IWord) (lo : Nat) : bitsAt w lo 1 = BitVec.ofBool (w.getLsbD lo) := by
  ext i hi
  obtain rfl : i = 0 := by omega
  simp [bitsAt]

/-! ### The word of an instruction that a builder gives -/

section
variable {op : AluOp} {reg res op1 op2 : Reg} {i : Instr}

theorem encode_ofAlu_mem {ea : EAddr} (h : Instr.ofAlu op (.mem reg ea) = some i) :
    encode i = encodeAlu op (.mem reg ea) := by
  cases ea <;> cases op <;>
    simp only [Instr.ofAlu, sevenForms, sixForms, memForm, Option.some.injEq, reduceCtorEq] at h <;> subst h <;> rfl

theorem encode_ofAlu_imm {data : Byte} (h : Instr.ofAlu op (.imm reg data) = some i) :
    encode i = encodeAlu op (.imm reg data) := by
  cases op <;>
    simp only [Instr.ofAlu, sevenForms, sixForms, Option.some.injEq, reduceCtorEq] at h <;> subst h <;> rfl

/-- In format 4 the canonical word keeps the three registers, but for op2 of a shift, which reads as `a`, and the destination
of a compare, which reads as op2 (30_encoding.md R120, log 28). -/
theorem encode_ofAlu_regs (h : Instr.ofAlu op (.regs res op1 op2) = some i) (hones : op.fixedOnes = true → op2 = .a) :
    encode i = encodeAlu op (.regs res op1 op2) ∨
      encode i = encodeAlu op (.regs res op1 .a) ∧ i.ignoredBits = 0x000F00#22 ∨
      encode i = encodeAlu op (.regs op2 op1 op2) ∧ i.ignoredBits = 0x00000F#22 := by
  cases op <;> simp only [Instr.ofAlu, sevenForms, sixForms, Option.some.injEq, reduceCtorEq] at h <;> subst h
  case shl | shlc | shr | shrc | shra => exact .inr (.inl ⟨rfl, rfl⟩)
  case cmp | cmpa => exact .inr (.inr ⟨rfl, rfl⟩)
  case move | cmvd | cmvs | cpl1 | cpl2 | cpl2c | dec | decc | inc | incc =>
    rw [hones rfl]
    exact .inl rfl
  all_goals exact .inl rfl

theorem encode_store (reg : Reg) (ea : EAddr) : encode (.store reg ea) = encodeStore reg ea := by cases ea <;> rfl

theorem encode_jcc (c : Cond) (t : Target) : encode (.jcc c t) = encodeJcc c t := by cases c <;> cases t <;> rfl

end

/-! ### Format by format -/

section
variable {w : IWord} {i : Instr}

theorem decodeMemory_eq_some {ea : EAddr} (h : decodeMemory w ea = some i) :
    ∃ op reg, bitsAt w 12 5 = op.code ∧ bitsAt w 8 4 = Reg.code reg ∧ encode i = encodeAlu op (.mem reg ea) := by
  unfold decodeMemory at h
  split at h
  · next op hop =>
    exact ⟨op, _, (AluOp.code_of_ofCode hop).symm, (Reg.code_ofCode _).symm, encode_ofAlu_mem h⟩
  · cases h

theorem encode_of_decode_direct (h17 : bitsAt w 17 5 = 0b00010#5)
    (h : decodeMemory w (.direct (~~~bitsAt w 0 8)) = some i) : encode i = w := by
  obtain ⟨op, reg, h12, h8, he⟩ := decodeMemory_eq_some h
  exact he.trans (encodeAlu_direct_iff.mpr ⟨h17, h12, h8, (BitVec.not_not).symm⟩)

theorem encode_of_decode_indexed (h19 : bitsAt w 19 3 = 0b011#3)
    (h : decodeMemory w (.indexed (Ix.ofCode (bitsAt w 17 2)) (bitsAt w 0 8)) = some i) : encode i = w := by
  obtain ⟨op, reg, h12, h8, he⟩ := decodeMemory_eq_some h
  exact he.trans (encodeAlu_indexed_iff.mpr ⟨h19, (Ix.code_ofCode _).symm, h12, h8, rfl⟩)

theorem encode_of_decode_modified (h19 : bitsAt w 19 3 = 0b010#3)
    (h : decodeMemory w (modifiedOperand (Ix.ofCode (bitsAt w 17 2)) w) = some i) : encode i = w := by
  obtain ⟨op, reg, h12, h8, he⟩ := decodeMemory_eq_some h
  rcases BitVec.eq_zero_or_eq_one (bitsAt w 7 1) with h7 | h7
  · rw [modifiedOperand_postinc _ h7] at he
    exact he.trans (encodeAlu_postinc_iff.mpr ⟨h19, (Ix.code_ofCode _).symm, h12, h8, h7, rfl⟩)
  · rw [modifiedOperand_predec _ h7] at he
    exact he.trans (encodeAlu_predec_iff.mpr ⟨h19, (Ix.code_ofCode _).symm, h12, h8, h7, rfl⟩)

theorem encode_of_decode_r3 (h17 : bitsAt w 17 5 = 0b00011#5) (h2 : bitsAt w 2 6 = 0b111111#6)
    (h : decodeMemory w (.r3 (Ix.ofCode (bitsAt w 0 2))) = some i) : encode i = w := by
  obtain ⟨op, reg, h12, h8, he⟩ := decodeMemory_eq_some h
  exact he.trans (encodeAlu_r3_iff.mpr ⟨h17, h12, h8, h2, (Ix.code_ofCode _).symm⟩)

theorem encode_of_decodeImmediate (h16 : bitsAt w 16 6 = 0b001110#6) (h : decodeImmediate w = some i) :
    encode i = w := by
  unfold decodeImmediate at h
  split at h
  · next op hop =>
    exact (encode_ofAlu_imm h).trans (encodeAlu_imm_iff.mpr
      ⟨h16, (AluOp.code_of_ofImmediateCode hop).symm, (Reg.code_ofCode _).symm, (BitVec.not_not).symm⟩)
  · cases h

/-- Everything format 4 can be read as. -/
theorem decodeRegisters_eq_some (h17 : bitsAt w 17 5 = 0b00110#5) (h : decodeRegisters w = some i) :
    ∃ op res op1 op2, Instr.ofAlu op (.regs res op1 op2) = some i ∧ (op.fixedOnes = true → op2 = .a) ∧
      encodeAlu op (.regs res op1 op2) = w := by
  unfold decodeRegisters at h
  split at h
  · next op hop =>
    split at h
    · cases h
    · next hb =>
      refine ⟨op, _, _, _, h, fun hf => ?_, encodeAlu_regs_iff.mpr ⟨h17, (AluOp.code_of_ofCode hop).symm,
        (Reg.code_ofCode _).symm, (Reg.code_ofCode _).symm, (Reg.code_ofCode _).symm⟩⟩
      have h8 : bitsAt w 8 4 = 0b1111#4 := by simpa [hf] using hb
      rw [h8]
      rfl
  · cases h

theorem encode_of_decodeSpecial (h17 : bitsAt w 17 5 = 0b00101#5) (h : decodeSpecial w = some i) : encode i = w := by
  have hlead {c : BitVec 5} (h12 : bitsAt w 12 5 = c) : bitsAt w 12 10 = 0b00101#5 ++ c :=
    bitsAt_eq_append.mpr ⟨h17, h12⟩
  unfold decodeSpecial at h
  split at h
  · next h12 =>
    split at h
    · next h0 => cases h; exact encode_sflag_iff.mpr ⟨hlead h12, h0⟩
    · cases h
  · next h12 =>
    split at h
    · next h4 => cases h; exact encode_freq_iff.mpr ⟨hlead h12, h4, rfl⟩
    · cases h
  · next h12 =>
    split at h
    · next h0 => cases h; exact encode_halt_iff.mpr ⟨hlead h12, h0⟩
    · cases h
  · next h12 =>
    split at h
    · next hones =>
      cases h
      exact encode_pmd_iff.mpr ⟨hlead h12, hones.1, bitsAt_one w 8, hones.2⟩
    · cases h
  · cases h

theorem encode_of_decodeStore (h18 : bitsAt w 18 4 = 0b0000#4) (h : decodeStore w = some i) : encode i = w := by
  unfold decodeStore at h
  split at h
  · next h16 =>
    cases h
    exact encode_moveToDirectImm_iff.mpr
      ⟨bitsAt_eq_append.mpr ⟨h18, h16⟩, (BitVec.not_not).symm, (BitVec.not_not).symm⟩
  · next h16 =>
    split at h
    · next h12 =>
      cases h
      have h12' : bitsAt w 12 6 = 0b011011#6 := bitsAt_eq_append.mpr ⟨h16, h12⟩
      exact (encode_store _ _).trans (encodeStore_direct_iff.mpr
        ⟨bitsAt_eq_append.mpr ⟨h18, h12'⟩, (Reg.code_ofCode _).symm, (BitVec.not_not).symm⟩)
    · cases h
  · next h00 h01 =>
    have h17 : bitsAt w 17 1 = 0b1#1 := by
      rcases BitVec.eq_zero_or_eq_one (bitsAt w 17 1) with hz | ho
      · rcases BitVec.eq_zero_or_eq_one (bitsAt w 16 1) with h16 | h16
        · exact absurd (bitsAt_eq_append.mpr ⟨hz, h16⟩) h00
        · exact absurd (bitsAt_eq_append.mpr ⟨hz, h16⟩) h01
      · exact ho
    have hlead {c : BitVec 3} (h14 : bitsAt w 14 3 = c) : bitsAt w 14 8 = 0b0000#4 ++ (0b1#1 ++ c) :=
      bitsAt_eq_append.mpr ⟨h18, bitsAt_eq_append.mpr ⟨h17, h14⟩⟩
    split at h
    · next h14 =>
      cases h
      exact (encode_store _ _).trans (encodeStore_indexed_iff.mpr
        ⟨hlead h14, (Ix.code_ofCode _).symm, (Reg.code_ofCode _).symm, rfl⟩)
    · next h14 =>
      cases h
      rw [encode_store]
      rcases BitVec.eq_zero_or_eq_one (bitsAt w 7 1) with h7 | h7
      · rw [modifiedOperand_postinc _ h7]
        exact encodeStore_postinc_iff.mpr ⟨hlead h14, (Ix.code_ofCode _).symm, (Reg.code_ofCode _).symm, h7, rfl⟩
      · rw [modifiedOperand_predec _ h7]
        exact encodeStore_predec_iff.mpr ⟨hlead h14, (Ix.code_ofCode _).symm, (Reg.code_ofCode _).symm, h7, rfl⟩
    · next h14 =>
      split at h
      · next h0 =>
        cases h
        exact (encode_store _ _).trans (encodeStore_r3_iff.mpr
          ⟨hlead h14, (Ix.code_ofCode _).symm, (Reg.code_ofCode _).symm, h0⟩)
      · cases h
    · cases h

theorem encode_of_decode000 (h19 : bitsAt w 19 3 = 0b000#3) (h : decode000 w = some i) : encode i = w := by
  have hlead {c : BitVec 2} (h17 : bitsAt w 17 2 = c) : bitsAt w 17 5 = 0b000#3 ++ c :=
    bitsAt_eq_append.mpr ⟨h19, h17⟩
  unfold decode000 at h
  split at h
  · next h17 =>
    split at h
    · next h2 => exact encode_of_decode_r3 (hlead h17) h2 h
    · cases h
  · next h17 => exact encode_of_decode_direct (hlead h17) h
  · next h11 h10 =>
    have h18 : bitsAt w 18 1 = 0b0#1 := by
      rcases BitVec.eq_zero_or_eq_one (bitsAt w 18 1) with hz | ho
      · exact hz
      · rcases BitVec.eq_zero_or_eq_one (bitsAt w 17 1) with h17 | h17
        · exact absurd (bitsAt_eq_append.mpr ⟨ho, h17⟩) h10
        · exact absurd (bitsAt_eq_append.mpr ⟨ho, h17⟩) h11
    exact encode_of_decodeStore (bitsAt_eq_append.mpr ⟨h19, h18⟩) h

/-- Only format 4 has bits that an instruction ignores. -/
theorem encode_of_decode001 (h19 : bitsAt w 19 3 = 0b001#3) (h : decode001 w = some i) :
    encode i = w ∨ bitsAt w 17 5 = 0b00110#5 ∧ decodeRegisters w = some i := by
  have hlead {c : BitVec 2} (h17 : bitsAt w 17 2 = c) : bitsAt w 17 5 = 0b001#3 ++ c :=
    bitsAt_eq_append.mpr ⟨h19, h17⟩
  unfold decode001 at h
  split at h
  · next h17 =>
    split at h
    · next h16 => exact .inl (encode_of_decodeImmediate (bitsAt_eq_append.mpr ⟨hlead h17, h16⟩) h)
    · cases h
  · next h17 => exact .inr ⟨hlead h17, h⟩
  · next h17 => exact .inl (encode_of_decodeSpecial (hlead h17) h)
  · cases h

theorem encode_of_decode101 (h19 : bitsAt w 19 3 = 0b101#3) (h : decode101 w = some i) : encode i = w := by
  unfold decode101 at h
  split at h
  · next h0 =>
    split at h
    · next h16 => cases h; exact encode_call_ip_iff.mpr ⟨bitsAt_eq_append.mpr ⟨h19, h16⟩, h0⟩
    · next h16 => cases h; exact encode_calls_ip_iff.mpr ⟨bitsAt_eq_append.mpr ⟨h19, h16⟩, h0⟩
    · next h16 => cases h; exact encode_push_iff.mpr ⟨bitsAt_eq_append.mpr ⟨h19, h16⟩, h0⟩
    · cases h
  · cases h

theorem encode_of_decode111 (h19 : bitsAt w 19 3 = 0b111#3) (h : decode111 w = some i) : encode i = w := by
  unfold decode111 at h
  split at h
  · next h16 => cases h; exact encode_call_abs_iff.mpr ⟨bitsAt_eq_append.mpr ⟨h19, h16⟩, (BitVec.not_not).symm⟩
  · next h16 => cases h; exact encode_calls_abs_iff.mpr ⟨bitsAt_eq_append.mpr ⟨h19, h16⟩, (BitVec.not_not).symm⟩
  · split_ifs at h with hnop hret hreti hpop <;> cases h
    · exact hnop.symm
    · exact hret.symm
    · exact hreti.symm
    · exact hpop.symm

theorem bitVec3_cases : ∀ c : BitVec 3, c = 0 ∨ c = 1 ∨ c = 2 ∨ c = 3 ∨ c = 4 ∨ c = 5 ∨ c = 6 ∨ c = 7 := by decide

/-- Outside format 4 a word that decodes is the encoded word of its instruction. -/
theorem encode_of_decode (h : decode w = some i) :
    encode i = w ∨ bitsAt w 17 5 = 0b00110#5 ∧ decodeRegisters w = some i := by
  unfold decode at h
  split at h
  · next h19 => exact .inl (encode_of_decode000 h19 h)
  · next h19 => exact encode_of_decode001 h19 h
  · next h19 => exact .inl (encode_of_decode_modified h19 h)
  · next h19 => exact .inl (encode_of_decode_indexed h19 h)
  · next h19 =>
    split at h
    · next h0 =>
      cases h
      exact .inl ((encode_jcc _ _).trans (encodeJcc_ip_iff.mpr ⟨h19, (Cond.code_ofCode _).symm, h0⟩))
    · cases h
  · next h19 => exact .inl (encode_of_decode101 h19 h)
  · next h19 =>
    cases h
    exact .inl ((encode_jcc _ _).trans
      (encodeJcc_abs_iff.mpr ⟨h19, (Cond.code_ofCode _).symm, (BitVec.not_not).symm⟩))
  · next h0 h1 h2 h3 h4 h5 h6 =>
    have h19 : bitsAt w 19 3 = 0b111#3 :=
      (((((((bitVec3_cases _).resolve_left h0).resolve_left h1).resolve_left h2).resolve_left h3).resolve_left
        h4).resolve_left h5).resolve_left h6
    exact .inl (encode_of_decode111 h19 h)

end

/-! ### The ignored bits -/

/-- Two words that differ in one field alone agree outside a mask of that field. -/
theorem xor_append_masked {m n : Nat} (p : BitVec m) (x y : BitVec n) :
    ((p ++ x) ^^^ (p ++ y)) &&& ~~~(0#m ++ BitVec.allOnes n) = 0#(m + n) := by
  rw [BitVec.xor_append, BitVec.not_append, BitVec.and_append]
  simp

theorem append_xor_masked {m n : Nat} {x y k : BitVec m} (s : BitVec n) (h : (x ^^^ y) &&& ~~~k = 0#m) :
    ((x ++ s) ^^^ (y ++ s)) &&& ~~~(k ++ 0#n) = 0#(m + n) := by
  rw [BitVec.xor_append, BitVec.not_append, BitVec.and_append, h]
  simp

theorem xor_self_masked (w m : IWord) : (w ^^^ w) &&& m = 0 := by simp

theorem encodeAlu_regs_op2_masked (op : AluOp) (res op1 op2 q : Reg) :
    (encodeAlu op (.regs res op1 op2) ^^^ encodeAlu op (.regs res op1 q)) &&& ~~~0x000F00#22 = 0 :=
  append_xor_masked res.code (append_xor_masked op1.code
    (xor_append_masked (0b00110#5 ++ op.code) op2.code q.code))

theorem encodeAlu_regs_res_masked (op : AluOp) (res op1 op2 q : Reg) :
    (encodeAlu op (.regs res op1 op2) ^^^ encodeAlu op (.regs q op1 op2)) &&& ~~~0x00000F#22 = 0 :=
  xor_append_masked (0b00110#5 ++ op.code ++ op2.code ++ op1.code) res.code q.code

/-- Settles O2: outside format 4 the word is the encoded one; in format 4 it differs at most in the unused register field. -/
theorem decodedWordsMatchTheirPattern : Obligations.DecodedWordsMatchTheirPattern := by
  intro w i h
  rcases encode_of_decode h with rfl | ⟨h17, hr⟩
  · exact xor_self_masked _ _
  · obtain ⟨op, res, op1, op2, hi, hones, rfl⟩ := decodeRegisters_eq_some h17 hr
    rcases encode_ofAlu_regs hi hones with he | ⟨he, hm⟩ | ⟨he, hm⟩
    · rw [he, xor_self_masked]
    · rw [he, hm]
      exact encodeAlu_regs_op2_masked op res op1 op2 .a
    · rw [he, hm]
      exact encodeAlu_regs_res_masked op res op1 op2 op2

end Sys2Proof
end

section
/-! SUPPORT. Words that are no instruction, words written out, and the steps that stop because there is nothing to run
(30_encoding.md R112, R113, R142, 93 U1, U11). -/

namespace Sys2Proof

/-! ### Unassigned codes -/

section
variable {w : IWord}

theorem decodeMemory_eq_none (h : AluOp.ofCode (bitsAt w 12 5) = none) (ea : EAddr) : decodeMemory w ea = none := by
  simp only [decodeMemory, h]

theorem decodeRegisters_eq_none (h : AluOp.ofCode (bitsAt w 12 5) = none) : decodeRegisters w = none := by
  simp only [decodeRegisters, h]

theorem decodeImmediate_eq_none (h : AluOp.ofImmediateCode (bitsAt w 12 4) = none) : decodeImmediate w = none := by
  simp only [decodeImmediate, h]

/-- A word whose leading bits are those of format 1, 2, 5 or 6 is read as an operation on memory, if as anything. -/
theorem decode_memory_formats
    (h : bitsAt w 20 2 = 0b01#2 ∨ bitsAt w 17 5 = 0b00011#5 ∨ bitsAt w 17 5 = 0b00010#5) :
    decode w = none ∨ ∃ ea, decode w = decodeMemory w ea := by
  rcases h with h20 | h17 | h17
  · rcases BitVec.eq_zero_or_eq_one (bitsAt w 19 1) with h19 | h19
    · exact .inr ⟨_, decode_modified (bitsAt_eq_append.mpr ⟨h20, h19⟩)⟩
    · exact .inr ⟨_, decode_indexed (bitsAt_eq_append.mpr ⟨h20, h19⟩)⟩
  · rw [decode_r3 h17]
    split
    · exact .inr ⟨_, rfl⟩
    · exact .inl rfl
  · exact .inr ⟨_, decode_direct h17⟩

end

theorem AluOp.ofCode_unassigned {c : BitVec 5} (h : c = 0b01001#5 ∨ c = 0b01111#5 ∨ c = 0b10111#5 ∨ c = 0b11101#5) :
    AluOp.ofCode c = none := by
  rcases h with rfl | rfl | rfl | rfl <;> rfl

/-- Settles O4: each of these formats looks its code up in a table that has no such row. -/
theorem unassignedAluCodesNameNoInstruction : Obligations.UnassignedAluCodesNameNoInstruction := by
  refine ⟨fun w hformat hcode => ?_, fun w h16 h12 => ?_, fun w h16 => decode_imm_bit16 h16⟩
  · have hnone : AluOp.ofCode (bitsAt w 12 5) = none := AluOp.ofCode_unassigned hcode
    have hmemory (h : decode w = none ∨ ∃ ea, decode w = decodeMemory w ea) : decode w = none := by
      rcases h with h | ⟨ea, h⟩
      · exact h
      · rw [h, decodeMemory_eq_none hnone]
    rcases hformat with h20 | h17 | h17
    · exact hmemory (decode_memory_formats (.inl h20))
    · rw [decode_regs h17, decodeRegisters_eq_none hnone]
    · exact hmemory (decode_memory_formats (.inr h17))
  · have hnone : AluOp.ofImmediateCode (bitsAt w 12 4) = none := congrArg AluOp.ofImmediateCode h12
    rw [decode_imm h16, decodeImmediate_eq_none hnone]

/-! ### Words written out -/

theorem decode_of_encode_eq {w : IWord} {i : Instr} (h : encode i = w) : decode w = some i :=
  h ▸ decodeOfEncodeIsTheInstruction i

/-- Settles O3: the thirty words that decode are the encoded words of their instructions. -/
theorem listedWordsDecode : Obligations.ListedWordsDecode := by
  unfold Obligations.ListedWordsDecode
  and_intros
  iterate 30 exact decode_of_encode_eq rfl
  all_goals decide

end Sys2Proof

namespace Sys2Proof.Machine

/-! ### Steps with nothing to run -/

theorem State.leaveHalt_of_running {s : State} (h : s.halted = false) : s.leaveHalt = s := by
  simp [State.leaveHalt, h]

theorem State.staysHalted_of_running {s : State} (h : s.halted = false) : s.staysHalted = false := by
  simp [State.staysHalted, h]

/-- A running core that no interrupt and no ROM mode takes runs the instruction at the boundary (60_exceptions.md R330). -/
theorem step_runInstruction {s : State} (h : s.RunsThisStep) (hrun : s.atBoundary.halted = false)
    (hpending : s.atBoundary.pending = none) (hrom : s.atBoundary.romMode = false) :
    step s = s.atBoundary.runInstruction := by
  rw [step_runs h, State.runBoundary, State.staysHalted_of_running hrun, State.leaveHalt_of_running hrun, hpending,
    hrom]
  rfl

theorem State.runInstruction_unpopulated {s : State} (h : s.instructionWord = none) :
    s.runInstruction = .fault .unpopulatedFetch := by
  simp only [State.runInstruction, h]

theorem State.runInstruction_undefined {s : State} {w : IWord} (h : s.instructionWord = some w) (hw : decode w = none) :
    s.runInstruction = .fault .undefinedEncoding := by
  simp only [State.runInstruction, h, hw]

/-- In Normal mode the word is fetched from program memory at the pc. -/
theorem State.instructionWord_atBoundary_normal {s : State} (h : s.nextInput.testEn = false) :
    s.atBoundary.instructionWord = Memory.lookup s.pm s.pc.toNat := by
  simp [State.instructionWord, h]

/-- Settles O7: the step is that of the instruction word, and there is none, or none that decodes. -/
theorem undefinedWordsAndEmptyAddressesFault : Obligations.UndefinedWordsAndEmptyAddressesFault := by
  intro s hs hrun hpending hrom
  rw [step_runInstruction hs hrun hpending hrom]
  exact ⟨fun w => State.runInstruction_undefined, fun hnormal hempty =>
    State.runInstruction_unpopulated ((State.instructionWord_atBoundary_normal hnormal).trans hempty)⟩

end Sys2Proof.Machine
end

section
/-! SUPPORT. Jumps, calls, returns and the two transfers between `ip` and the hardware stack: the next state of each outcome on
one record, and what a push and a pop leave of the stack (40_branch.md, 10_state.md R40 to R44). -/

namespace Sys2Proof.Machine

/-! ### The terms of the statements and those of the model -/

theorem State.target_eq_destination (s : State) (t : Target) : s.target t = s.destination t := by cases t <;> rfl

theorem eventActive_iff {ctl : Byte} : eventActive ctl = true ↔ ctl.getLsbD 0 = true ∨ ctl.getLsbD 1 = true :=
  Bool.or_eq_true_iff

theorem State.condition_iff {s : State} {c : Cond} : s.condition c = true ↔ s.Holds c := by
  cases c with
  | cc => exact Iff.of_eq (Bool.not_eq_true' _)
  | vc => exact Iff.of_eq (Bool.not_eq_true' _)
  | zc => exact Iff.of_eq (Bool.not_eq_true' _)
  | always => exact iff_of_true rfl trivial
  | cs => exact Iff.rfl
  | vs => exact Iff.rfl
  | zs => exact Iff.rfl
  | ev => exact eventActive_iff

/-- An immediate target is formed from no register, so no multiplication forbids it. -/
theorem State.hazardFree_abs (s : State) (addr : Word) : s.HazardFree (Target.abs addr).sources :=
  fun _ _ => List.not_mem_nil

/-! ### The two bytes of `ip` -/

theorem Regs.toNat_get_ipl_setIp (rs : Regs) (w : Word) : ((rs.setIp w).get .ipl).toNat = w.toNat % 256 := by
  rw [Regs.get_setIp, if_pos rfl]
  simp

theorem Regs.toNat_get_iph_setIp (rs : Regs) (w : Word) : ((rs.setIp w).get .iph).toNat = w.toNat / 256 := by
  have := w.isLt
  rw [Regs.get_setIp, if_neg (by decide), if_pos rfl, BitVec.extractLsb'_toNat, Nat.shiftRight_eq_div_pow]
  omega

theorem Regs.get_setIp_other {rs : Regs} {w : Word} {r : Reg} (hh : r ≠ .iph) (hl : r ≠ .ipl) :
    (rs.setIp w).get r = rs.get r := by
  rw [Regs.get_setIp, if_neg hl, if_neg hh]

/-- Writing back what `ip` holds changes no register. -/
@[simp] theorem Regs.setIp_ip (rs : Regs) : rs.setIp rs.ip = rs := by
  refine Regs.ext_get fun r => ?_
  rw [Regs.get_setIp]
  split
  · next h =>
    rw [h, Regs.ip, extract_append_low _ _ (by decide)]
    simp
  · split
    · next h =>
      rw [h, Regs.ip, extract_append_high _ _ (by decide)]
      simp
    · rfl

/-! ### The hardware stack -/

/-- The state a pop leaves, `rest` being the levels below the top one: they move up, and the vacated bottom level holds a free
value (10_state.md R43). -/
def State.popped (s : State) (rest : List Word) : State :=
  { s with levels := rest ++ [Config.freeLevel s.draws], cnt := s.cnt - 1, draws := s.draws + 1 }

theorem State.pop_of_level {s : State} {v : Word} {rest : List Word} (h0 : s.cnt ≠ 0) (hl : s.levels = v :: rest) :
    s.pop = some (v, s.popped rest) :=
  State.pop_eq_some.2 ⟨h0, rest, hl, rfl⟩

theorem State.push_of_room {s : State} (v : Word) (h : s.cnt ≠ s.platform.stackDepth) : s.push v = some (s.pushed v) :=
  State.push_eq_some.2 ⟨h, rfl⟩

/-- One level less in use: the stack cannot be full (10_state.md R41). -/
theorem State.stackFull_of_cnt_pred {s t : State} (h0 : s.cnt ≠ 0) (hle : s.cnt ≤ s.platform.stackDepth)
    (hcnt : t.cnt = s.cnt - 1) (hplatform : t.platform = s.platform) : t.stackFull = false := by
  rw [State.stackFull, beq_eq_false_iff_ne, hcnt, hplatform]
  omega

/-- A pop takes off the level that a push has put on, and the levels below move back (10_state.md R42, R43). -/
theorem State.pushed_levels_eq_cons {s : State} {w v : Word} {rest : List Word} (h : (s.pushed w).levels = v :: rest) :
    v = w ∧ rest = s.levels.take (s.platform.stackDepth - 1) := by
  rw [State.pushed_levels] at h
  cases hd : s.platform.stackDepth with
  | zero => simp [hd] at h
  | succ d =>
    rw [hd, List.take_succ_cons] at h
    obtain ⟨hv, hrest⟩ := List.cons.inj h
    exact ⟨hv.symm, hrest.symm⟩

/-! ### Jumps -/

/-- A jump that no multiplication forbids completes, at its target or at the next instruction (40_branch.md R151). -/
theorem exec_jcc_completes {s : State} {t : Target} (c : Cond) (hz : s.HazardFree t.sources) :
    exec (.jcc c t) s = .next (s.endsAt s (if s.condition c then s.destination t else s.pc + 1)) := by
  rw [exec_jcc, runJump, State.hazard_eq_false.2 hz, State.target_eq_destination]
  rfl

/-- Settles O45: the condition of the model decides between the two ends. -/
theorem jumpsFollowTheirCondition : Obligations.JumpsFollowTheirCondition := by
  intro c t s hz
  rw [exec_jcc_completes c hz]
  refine ⟨fun h => ?_, fun h => ?_⟩
  · rw [if_pos (State.condition_iff.2 h)]
  · rw [if_neg (mt State.condition_iff.1 h)]

/-- `JEV` to an immediate address decides on the event bits of the control view (40_branch.md R159). -/
theorem exec_jevAbs (s : State) (tgt : Word) :
    exec (.jevAbs tgt) s = .next (s.endsAt s
      (if s.statCtl.getLsbD 0 = true ∨ s.statCtl.getLsbD 1 = true then tgt else s.pc + 1)) := by
  refine (exec_jcc_completes .ev (s.hazardFree_abs tgt)).trans ?_
  simp only [State.condition, eventActive_iff, State.destination]

theorem reg_of_exec_moveImm {s t : State} {r : Reg} {data : Byte} (h : exec (.moveImm r data) s = .next t) :
    t.reg r = data := by
  rw [exec_ofAlu_next (op := .move) (form := .imm r data) rfl h]
  exact s.reg_dest_afterAlu (form := .imm r data) rfl rfl

/-- Settles O47: each of the two instructions leaves the `stat` it began with in the control view, where JEV looks. -/
theorem jevSeesAStatWriteOneInstructionLate : Obligations.JevSeesAStatWriteOneInstructionLate := by
  intro s u v data tgt hmove hnop
  have hold : u.statCtl = s.reg .stat := (controlViewLagsOneInstruction _ s u hmove).1 (by simp)
  have hnew : v.statCtl = data :=
    ((controlViewLagsOneInstruction _ u v hnop).1 (by simp)).trans (reg_of_exec_moveImm hmove)
  rw [exec_jevAbs u, exec_jevAbs v, hold, hnew]
  exact ⟨rfl, rfl⟩

/-! ### Calls -/

/-- Settles O48: the push of the return address finds room, or it does not. -/
theorem callPushesTheReturnAddress : Obligations.CallPushesTheReturnAddress := by
  intro t s hz
  rw [exec_call, runCall, State.hazard_eq_false.2 hz, State.target_eq_destination]
  refine ⟨fun hroom => ?_, fun hfull => ?_⟩
  · rw [State.push_of_room _ hroom]
    rfl
  · rw [State.push_eq_none.2 hfull]
    rfl

/-- Settles O49: the target is read before `ip` is written. -/
theorem callsSavesTheReturnAddressInIp : Obligations.CallsSavesTheReturnAddressInIp := by
  intro t s hz
  refine ⟨s.regs.setIp (s.pc + 1), ?_, Regs.toNat_get_iph_setIp _ _, Regs.toNat_get_ipl_setIp _ _,
    fun r => Regs.get_setIp_other⟩
  rw [exec_calls, runCalls, State.hazard_eq_false.2 hz, State.target_eq_destination]
  rfl

/-! ### Returns -/

theorem exec_ret_of_pop {s u : State} {v : Word} (h : s.pop = some (v, u)) : exec .ret s = .next (s.endsAt u v) := by
  rw [exec, execRet, h]
  rfl

theorem exec_ret_of_empty {s : State} (h : s.cnt = 0) : exec .ret s = .fault .stackUnderflow := by
  rw [exec, execRet, State.pop_eq_none_of_empty h]

/-- Settles O50. -/
theorem retPopsThePc : Obligations.RetPopsThePc := by
  refine ⟨decode_of_encode_eq rfl, fun s => ⟨fun v rest h0 hl => ?_, exec_ret_of_empty⟩⟩
  exact ⟨_, exec_ret_of_pop (State.pop_of_level h0 hl), rfl, fun hle => State.stackFull_of_cnt_pred h0 hle rfl rfl⟩

theorem exec_reti_of_pop {s u : State} {v : Word} (h : s.pop = some (v, u)) :
    exec .reti s = .next { s.endsAt (u.setReg .stat (setGie s.regs.stat)) v with
      statCtl := if s.platform.retiGieDelay then s.regs.stat else setGie s.regs.stat } := by
  rw [exec, execReti, State.interruptReturn, h]
  rfl

theorem exec_reti_of_empty {s : State} (h : s.cnt = 0) : exec .reti s = .fault .stackUnderflow := by
  rw [exec, execReti, State.interruptReturn, State.pop_eq_none_of_empty h]

/-- Settles O51: the pop writes no register, and bit 5 of `stat` is GIE. -/
theorem retiPopsThePcAndSetsGie : Obligations.RetiPopsThePcAndSetsGie := by
  refine ⟨decode_of_encode_eq rfl, fun s => ⟨fun v rest h0 hl => ?_, exec_reti_of_empty⟩⟩
  exact exec_reti_of_pop (State.pop_of_level h0 hl)

/-! ### `PUSH` and `POP` -/

section
variable {s t : State}

theorem exec_push_of_room (hz : s.HazardFree ipRegs) (hroom : s.cnt ≠ s.platform.stackDepth) :
    exec .push s = .next (s.endsAt (s.pushed s.regs.ip) (s.pc + 1)) := by
  rw [exec, execPush, State.hazard_eq_false.2 hz, State.push_of_room _ hroom]
  rfl

theorem exec_push_of_full (hz : s.HazardFree ipRegs) (hfull : s.cnt = s.platform.stackDepth) :
    exec .push s = .fault .stackOverflow := by
  rw [exec, execPush, State.hazard_eq_false.2 hz, State.push_eq_none.2 hfull]
  rfl

theorem exec_push_of_hazard (hz : s.hazard ipRegs = true) : exec .push s = .refused .multiplierHazard :=
  if_pos hz

/-- Everything `PUSH` can do. -/
theorem exec_push_next (h : exec .push s = .next t) : t = s.endsAt (s.pushed s.regs.ip) (s.pc + 1) := by
  obtain hz | hz := Bool.eq_false_or_eq_true (s.hazard ipRegs)
  · rw [exec_push_of_hazard hz] at h
    cases h
  · have hfree := State.hazard_eq_false.1 hz
    by_cases hfull : s.cnt = s.platform.stackDepth
    · rw [exec_push_of_full hfree hfull] at h
      cases h
    · rw [exec_push_of_room hfree hfull] at h
      exact (Host.Outcome.next.inj h).symm

theorem exec_pop_of_pop {u : State} {v : Word} (h : s.pop = some (v, u)) :
    exec .pop s = .next (s.endsAt (u.setIp v) (s.pc + 1)) := by
  rw [exec, execPop, h]
  rfl

theorem exec_pop_of_none (h : s.pop = none) : exec .pop s = .fault .stackUnderflow := by
  rw [exec, execPop, h]

/-- Everything `POP` can do. -/
theorem exec_pop_next (h : exec .pop s = .next t) :
    ∃ v rest, s.levels = v :: rest ∧ t = s.endsAt ((s.popped rest).setIp v) (s.pc + 1) := by
  cases hp : s.pop with
  | none =>
    rw [exec_pop_of_none hp] at h
    cases h
  | some top =>
    obtain ⟨-, rest, hl, hu⟩ := State.pop_eq_some.1 hp
    rw [exec_pop_of_pop hp, hu] at h
    exact ⟨top.1, rest, hl, (Host.Outcome.next.inj h).symm⟩

end

/-- Settles O52: the check for the multiplication comes before the push. -/
theorem pushSavesIp : Obligations.PushSavesIp := by
  refine ⟨decode_of_encode_eq rfl, fun s => ⟨fun hz => ⟨exec_push_of_room hz, exec_push_of_full hz⟩, fun hm => ?_⟩⟩
  apply exec_push_of_hazard
  rw [State.hazard_eq_true]
  rcases hm with hm | hm
  · exact ⟨.ipl, hm, by decide⟩
  · exact ⟨.iph, hm, by decide⟩

/-- Settles O53: the pop moves the levels, and the top one goes to `ip`. -/
theorem popLoadsIp : Obligations.PopLoadsIp := by
  refine ⟨decode_of_encode_eq rfl, fun s => ⟨fun v rest h0 hl => ?_, fun h0 =>
    exec_pop_of_none (State.pop_eq_none_of_empty h0)⟩⟩
  refine ⟨_, s.regs.setIp v, exec_pop_of_pop (State.pop_of_level h0 hl), rfl, ?_, ?_, fun r => Regs.get_setIp_other,
    fun hle => State.stackFull_of_cnt_pred h0 hle rfl rfl⟩
  · rw [Regs.get_setIp, if_neg (by decide), if_pos rfl]
  · rw [Regs.get_setIp, if_pos rfl]

/-- Settles O54: POP writes `ip` back to itself, and the levels that PUSH has moved down move up again. -/
theorem pushThenPopReturnsIp : Obligations.PushThenPopReturnsIp := by
  intro s u t hdepth hpush hpop
  obtain rfl := exec_push_next hpush
  obtain ⟨v, rest, hl, rfl⟩ := exec_pop_next hpop
  obtain ⟨rfl, rfl⟩ := State.pushed_levels_eq_cons hl
  refine ⟨fun r => ?_, Nat.add_sub_cancel s.cnt 1, ?_⟩
  · exact congrArg (Regs.get · r) (Regs.setIp_ip s.regs)
  · have hlength : (s.levels.take (s.platform.stackDepth - 1)).length = s.platform.stackDepth - 1 := by
      rw [List.length_take, hdepth]
      omega
    exact List.take_left' hlength

end Sys2Proof.Machine
end

section
/-! SUPPORT. Transfer (41_transfer.md): what a store leaves behind in each kind of location, and the moves as functions of
op1. -/

namespace Sys2Proof.Machine

/-! ### Stores -/

/-- A write to private or shared RAM puts the byte there and does nothing else. -/
theorem State.writeData_ram {s : State} {a : Word} (v : Byte) (h : s.kindAt a = .ram ∨ s.kindAt a = .shared) :
    s.writeData a v = s.setByte a v := by
  rcases h with h | h <;> simp [State.writeData, h]

/-- Settles O39: the store ends in one write of RAM and the index update, and a write of a byte changes that byte alone. -/
theorem storesWriteOneByte : Obligations.StoresWriteOneByte := by
  intro reg ea s hz hm hram
  rw [exec_store_completes hz hm, State.writeData_ram _ hram]
  refine ⟨_, rfl, ?_, fun a ha => ?_, rfl⟩
  · exact (s.byteAt_setByte _ _ _).trans (if_pos rfl)
  · exact (s.byteAt_setByte _ a _).trans (if_neg ha)

/-- Page 0 (20_memory.md R80): the effective address of the direct mode, as a number. -/
theorem State.eq_address_direct_iff {s : State} {ea : Word} {addr : Byte} :
    ea = s.address (.direct addr) ↔ ea.toNat = addr.toNat := by
  have haddr : (s.address (.direct addr)).toNat = addr.toNat := BitVec.toNat_setWidth_of_le (by decide)
  rw [← BitVec.toNat_inj, haddr]

/-- The store of an immediate completes in every state: it forms its address from no register (41_transfer.md R182). -/
theorem exec_moveToDirectImm (addr data : Byte) (s : State) :
    exec (.moveToDirectImm addr data) s =
      .next (s.endsAt (s.writeData (s.address (.direct addr)) data) (s.pc + 1)) := rfl

/-- Settles O40: the store is one write of data memory, and the kind of the location says what the write leaves there. -/
theorem storeOfAnImmediate : Obligations.StoreOfAnImmediate := by
  intro addr data
  refine ⟨decode_encode_moveToDirectImm addr data, fun s => ⟨_, exec_moveToDirectImm addr data s, rfl,
    s.writeData_regs _ _, s.writeData_flags _ _, s.writeData_levels _ _, s.writeData_cnt _ _, s.writeData_freqOut _ _,
    s.writeData_halted _ _, s.writeData_romMode _ _, ?others, fun ea hea => ?_⟩⟩
  case others =>
    intro a ha
    exact s.byteAt_writeData_other data (mt State.eq_address_direct_iff.1 ha)
  obtain rfl : ea = s.address (.direct addr) := State.eq_address_direct_iff.2 hea
  refine ⟨fun hk => ?ram, fun hk => ?device, fun hk => ?unpopulated⟩
  case ram =>
    rw [State.writeData_ram data hk]
    exact ⟨(s.byteAt_setByte _ _ _).trans (if_pos rfl), rfl⟩
  case device =>
    rw [State.writeData_device data hk, hea]
    exact ⟨rfl, rfl⟩
  case unpopulated =>
    rw [State.writeData_unpopulated data hk]
    exact ⟨(s.byteAt_setByte _ _ _).trans (if_pos rfl), rfl⟩

/-! ### Moves -/

/-- A result that gives Z and leaves C and V, with the write of the destination left to a condition (41_transfer.md R183,
R184). -/
theorem logical_with_write (x : Byte) (f : Flags) (w : Bool) :
    { logical x f with write := w } = { writesZ x f with write := w } := rfl

/-- Settles O38: each answers op1 and its Z; C alone decides whether a conditional move writes the destination. -/
theorem moveAndConditionalMoves : Obligations.MoveAndConditionalMoves := by
  refine ⟨answers_move, ?cmvd, ?cmvs⟩
  case cmvd => exact answers_of_fn fun x _ f _ => logical_with_write x f (!f.c)
  case cmvs => exact answers_of_fn fun x _ f _ => logical_with_write x f f.c

end Sys2Proof.Machine
end

section
/-! SUPPORT. Arithmetic (42_arith.md): what the adder answers with a constant operand, the two orders of the compares,
and the completion statements of the sixteen operations. -/

namespace Sys2Proof.Machine

/-! ### Sums and differences -/

/-- Settles O26: both are the adder, whose C and V are those of the sum on numbers. -/
theorem addAndAddc : Obligations.AddAndAddc := by
  refine ⟨?add, ?addc⟩
  case add => exact answers_of_fn fun x y _ _ => adder_eq_sumOut x y false
  case addc => exact answers_of_fn fun x y f _ => adder_eq_sumOut x y f.c

/-- Settles O27: both are the adder on a complement with C = 1, which is the difference without a borrow. -/
theorem subdAndSubs : Obligations.SubdAndSubs := by
  refine ⟨?subd, ?subs⟩
  case subd => exact answers_of_fn fun x y _ _ => adder_eq_differenceOut x y true
  case subs => exact answers_of_fn fun x y _ _ => adder_eq_differenceOut y x true

/-- Settles O28: both are the adder on a complement with the carry in, whose invert is the borrow. -/
theorem subdcAndSubsc : Obligations.SubdcAndSubsc := by
  refine ⟨?subdc, ?subsc⟩
  case subdc => exact answers_of_fn fun x y f _ => adder_eq_differenceOut x y f.c
  case subsc => exact answers_of_fn fun x y f _ => adder_eq_differenceOut y x f.c

/-! ### The adder with a constant operand: `INC`, `DEC` and the two's complement -/

theorem beq_ofNat_iff_toNat {n : Nat} (h : n < 256) (x : Byte) : (x == BitVec.ofNat 8 n) = true ↔ x.toNat = n := by
  rw [beq_iff_eq, ← BitVec.toNat_inj, BitVec.toNat_ofNat, Nat.mod_eq_of_lt h]

theorem carryIn_le_one (cin : Bool) : carryIn cin ≤ 1 := by
  cases cin <;> decide

theorem eq_true_iff_carryIn (cin : Bool) : cin = true ↔ carryIn cin = 1 := by
  cases cin <;> decide

/-- An addition of 0 carries out of 0xFF and overflows from 0x7F, each only with C = 1 (42_arith.md R207, R208). -/
theorem adder_zero (x : Byte) (cin : Bool) :
    adder x 0#8 cin =
      writesBoth (BitVec.ofNat 8 (x.toNat + carryIn cin)) (x == 0xFF#8 && cin) (x == 0x7F#8 && cin) := by
  have hx := x.isLt
  have hk := carryIn_le_one cin
  have hc : decide (256 ≤ x.toNat + 0 + carryIn cin) = (x == 0xFF#8 && cin) := by
    rw [← Bool.coe_iff_coe, Bool.and_eq_true, beq_ofNat_iff_toNat (by decide), eq_true_iff_carryIn cin,
      decide_eq_true_eq]
    omega
  have hv : overflows (x.toInt + 0 + carryIn cin) = (x == 0x7F#8 && cin) := by
    rw [← Bool.coe_iff_coe, Bool.and_eq_true, beq_ofNat_iff_toNat (by decide), eq_true_iff_carryIn cin, overflows,
      decide_eq_true_eq, toInt_eq]
    split <;> omega
  rw [adder_eq_sumOut, ← hc, ← hv]
  rfl

/-- An addition of 0xFF is the decrement: it borrows from 0 and overflows from 0x80, each only with C = 0 (42_arith.md
R209, R210). -/
theorem adder_minusOne (x : Byte) (cin : Bool) :
    adder x 0xFF#8 cin =
      writesBoth (BitVec.ofInt 8 ((x.toNat : Int) + carryIn cin - 1)) (!(x == 0#8) || cin) (x == 0x80#8 && !cin) := by
  have hx := x.isLt
  have hk := carryIn_le_one cin
  have hr : BitVec.ofNat 8 (x.toNat + 255 + carryIn cin) = BitVec.ofInt 8 ((x.toNat : Int) + carryIn cin - 1) := by
    apply BitVec.eq_of_toNat_eq
    simp only [BitVec.toNat_ofNat, BitVec.toNat_ofInt]
    omega
  have hc : decide (256 ≤ x.toNat + 255 + carryIn cin) = (!(x == 0#8) || cin) := by
    rw [← Bool.coe_iff_coe, Bool.or_eq_true, Bool.not_eq_true', ← Bool.not_eq_true, beq_ofNat_iff_toNat (by decide),
      eq_true_iff_carryIn cin, decide_eq_true_eq]
    omega
  have hv : overflows (x.toInt + -1 + carryIn cin) = (x == 0x80#8 && !cin) := by
    rw [← Bool.coe_iff_coe, Bool.and_eq_true, beq_ofNat_iff_toNat (by decide), Bool.not_eq_true', ← Bool.not_eq_true,
      eq_true_iff_carryIn cin, overflows, decide_eq_true_eq, toInt_eq]
    split <;> omega
  rw [adder_eq_sumOut, ← hr, ← hc, ← hv]
  rfl

/-- The complement is 0xFF exactly for 0 and 0x7F exactly for 0x80, so the corners of the two's complement are those of
an addition of 0 (42_arith.md R211, R212). -/
theorem adder_complement_zero (x : Byte) (cin : Bool) :
    adder (~~~x) 0#8 cin =
      writesBoth (BitVec.ofInt 8 (255 - (x.toNat : Int) + carryIn cin)) (x == 0#8 && cin) (x == 0x80#8 && cin) := by
  have hx := x.isLt
  have hr : BitVec.ofNat 8 ((~~~x).toNat + carryIn cin) = BitVec.ofInt 8 (255 - (x.toNat : Int) + carryIn cin) := by
    apply BitVec.eq_of_toNat_eq
    simp only [BitVec.toNat_ofNat, BitVec.toNat_ofInt, BitVec.toNat_not]
    omega
  have corner : ∀ y : Byte, (~~~x == ~~~y) = (x == y) := fun y => by
    rw [← Bool.coe_iff_coe, beq_iff_eq, beq_iff_eq, BitVec.not_inj]
  rw [adder_zero, hr]
  exact congrArg₂ (fun c v => writesBoth _ (c && cin) (v && cin)) (corner 0#8) (corner 0x80#8)

/-- Settles O29: the adder of a constant with the carry in that the operation fixes. -/
theorem incAndDec : Obligations.IncAndDec := by
  refine ⟨?inc, ?dec⟩
  case inc =>
    refine answers_of_fn fun x _ _ _ => (adder_zero x true).trans ?_
    rw [Bool.and_true, Bool.and_true]
    rfl
  case dec =>
    refine answers_of_fn fun x _ _ _ => (adder_minusOne x false).trans ?_
    have hk : (x.toNat : Int) + carryIn false = x.toNat := Int.add_zero _
    rw [hk, Bool.or_false, Bool.not_false, Bool.and_true]
    rfl

/-- The open inputs of 93 U6 free V and nothing else. -/
theorem adderFreeV_eq (x y : Byte) (cin corner : Bool) (draws : Nat) :
    adderFreeV x y cin corner draws = withFreeV (adder x y cin) corner draws := by
  cases corner <;> rfl

/-- Settles O30: the adder of a constant with the carry, its V free on the one open input. -/
theorem inccAndDecc : Obligations.InccAndDecc := by
  refine ⟨?incc, ?decc⟩
  case incc =>
    refine answers_of_fn fun x _ f n => (adderFreeV_eq x _ f.c _ n).trans ?_
    rw [adder_zero]
    rfl
  case decc =>
    refine answers_of_fn fun x _ f n => (adderFreeV_eq x _ f.c _ n).trans ?_
    rw [adder_minusOne]
    rfl

/-- The two's complement is one more than the complement, modulo 256 (42_arith.md R211). -/
theorem ofInt_complement_add_one (n : Int) : BitVec.ofInt 8 (255 - n + 1) = BitVec.ofInt 8 (-n) := by
  apply BitVec.eq_of_toNat_eq
  simp only [BitVec.toNat_ofInt]
  omega

/-- Settles O31: the adder of the complement and 0; `CPL2` has C = 1, and V of `CPL2C` is free on its open input. -/
theorem cpl2AndCpl2c : Obligations.Cpl2AndCpl2c := by
  refine ⟨?cpl2, ?cpl2c⟩
  case cpl2 =>
    refine answers_of_fn fun x _ _ _ => (adder_complement_zero x true).trans ?_
    rw [← ofInt_complement_add_one, Bool.and_true, Bool.and_true]
    rfl
  case cpl2c =>
    refine answers_of_fn fun x _ f n => (adderFreeV_eq _ _ f.c _ n).trans ?_
    rw [adder_complement_zero]
    rfl

/-! ### Compares -/

/-- In a linear order on the bytes, less is neither greater nor equal: V of a compare is C and not Z. -/
theorem decide_lt_eq_not_gt_and_ne {α : Type} [LinearOrder α] {key : Byte → α} (hkey : ∀ x y, key x = key y ↔ x = y)
    (d s : Byte) : decide (key d < key s) = (!decide (key s < key d) && !(d == s)) := by
  rw [← Bool.coe_iff_coe]
  simp only [Bool.and_eq_true, Bool.not_eq_true', decide_eq_true_eq, decide_eq_false_iff_not, beq_eq_false_iff_ne,
    not_lt, ne_eq, ← hkey]
  exact lt_iff_le_and_ne

/-- Settles O32: the unsigned and the signed order are both linear orders on the bytes. -/
theorem cmpAndCmpa : Obligations.CmpAndCmpa := by
  refine ⟨?cmp, ?cmpa⟩
  case cmp =>
    exact answers_of_fn fun s d _ _ => compareBytes_eq (decide_lt_eq_not_gt_and_ne (fun _ _ => BitVec.toNat_inj) d s)
  case cmpa =>
    exact answers_of_fn fun s d _ _ => compareBytes_eq (decide_lt_eq_not_gt_and_ne (fun _ _ => BitVec.toInt_inj) d s)

/-! ### Multiplications -/

/-- Settles O33: the product as an integer; that of two unsigned bytes is one of natural numbers. -/
theorem mulAndMula : Obligations.MulAndMula := by
  refine ⟨?mul, ?mula⟩
  case mul =>
    refine answers_of_fn fun x y _ n => ?_
    rw [← Nat.cast_mul, ← multiply_eq, BitVec.ofInt_natCast]
    rfl
  case mula => exact answers_of_fn fun x y _ n => multiply_eq (x.toInt * y.toInt) n

end Sys2Proof.Machine
end

section
/-! SUPPORT. Logic and shifts (43_logic_shift.md): the bitwise operations and the shifts on numbers, and the completion
statements of the ten operations. -/

namespace Sys2Proof.Machine

/-! ### Shifts -/

theorem toNat_ofBool_eq_carryIn (b : Bool) : (BitVec.ofBool b).toNat = carryIn b := by
  cases b <;> rfl

/-- Bits 7 and 6 of a byte differ between a quarter and three quarters of its range (43_logic_shift.md R250). -/
theorem topBitsDiffer_eq (x : Byte) :
    (x.getLsbD 7 ^^ x.getLsbD 6) = decide (64 ≤ x.toNat ∧ x.toNat < 192) := by
  have hx := x.isLt
  rw [← Bool.coe_iff_coe]
  simp only [BitVec.getLsbD, Nat.testBit_eq_decide_div_mod_eq, Bool.xor_iff_ne, ne_eq, decide_eq_decide,
    decide_eq_true_eq]
  omega

/-- A shift left doubles and adds the bit shifted in; the bit out and the change of sign are bounds on the operand
(43_logic_shift.md R245, R246; log 25). -/
theorem shiftLeft_eq (x : Byte) (low : Bool) :
    shiftLeft x low =
      writesBoth (BitVec.ofNat 8 (2 * x.toNat + carryIn low)) (decide (128 ≤ x.toNat))
        (decide (64 ≤ x.toNat ∧ x.toNat < 192)) := by
  have hr : x.extractLsb' 0 7 ++ BitVec.ofBool low = BitVec.ofNat 8 (2 * x.toNat + carryIn low) := by
    apply BitVec.eq_of_toNat_eq
    rw [BitVec.toNat_append, ← Nat.shiftLeft_add_eq_or_of_lt (BitVec.ofBool low).isLt, toNat_ofBool_eq_carryIn,
      BitVec.extractLsb'_toNat, BitVec.toNat_ofNat, Nat.shiftLeft_eq, Nat.shiftRight_zero]
    have := carryIn_le_one low
    omega
  rw [shiftLeft, hr, topBitsDiffer_eq, signBit_eq]
  rfl

/-- A shift right halves and adds the bit shifted in as bit 7; the bit out is the remainder (43_logic_shift.md R247 to
R250). -/
theorem shiftRight_eq (x : Byte) (high : Bool) :
    shiftRight x high =
      writesBoth (BitVec.ofNat 8 (x.toNat / 2 + 128 * carryIn high)) (decide (x.toNat % 2 = 1)) false := by
  have hr : BitVec.ofBool high ++ x.extractLsb' 1 7 = BitVec.ofNat 8 (x.toNat / 2 + 128 * carryIn high) := by
    apply BitVec.eq_of_toNat_eq
    rw [BitVec.toNat_append, ← Nat.shiftLeft_add_eq_or_of_lt (x.extractLsb' 1 7).isLt, toNat_ofBool_eq_carryIn,
      BitVec.extractLsb'_toNat, BitVec.toNat_ofNat, Nat.shiftLeft_eq, Nat.shiftRight_eq_div_pow]
    have := x.isLt
    have := carryIn_le_one high
    omega
  have hc : x.getLsbD 0 = decide (x.toNat % 2 = 1) := Nat.testBit_zero _
  rw [shiftRight, hr, hc]
  rfl

/-- The sign shifted in makes the half that of the signed number, rounded down (43_logic_shift.md R249). -/
theorem half_with_sign_eq (x : Byte) :
    BitVec.ofNat 8 (x.toNat / 2 + 128 * carryIn (x.getLsbD 7)) = BitVec.ofInt 8 (x.toInt / 2) := by
  have hx := x.isLt
  apply BitVec.eq_of_toNat_eq
  simp only [BitVec.toNat_ofNat, BitVec.toNat_ofInt, signBit_eq, toInt_eq, carryIn, decide_eq_true_eq]
  split <;> omega

/-- Settles O36: both are the shift left; the bit shifted in is 0 or C. -/
theorem leftShifts : Obligations.LeftShifts := by
  refine ⟨?shl, ?shlc⟩
  case shl => exact answers_of_fn fun x _ _ _ => shiftLeft_eq x false
  case shlc => exact answers_of_fn fun x _ f _ => shiftLeft_eq x f.c

/-- Settles O37: the three are the shift right; the bit shifted in is 0, C or the sign. -/
theorem rightShifts : Obligations.RightShifts := by
  refine ⟨?shr, ?shrc, ?shra⟩
  case shr => exact answers_of_fn fun x _ _ _ => shiftRight_eq x false
  case shrc => exact answers_of_fn fun x _ f _ => shiftRight_eq x f.c
  case shra =>
    refine answers_of_fn fun x _ _ _ => (shiftRight_eq x (x.getLsbD 7)).trans ?_
    rw [half_with_sign_eq]

/-! ### Bitwise operations -/

/-- A byte given by its number is what a logical operation answers, with its Z and the old C and V. -/
theorem logical_eq_writesZ {x : Byte} {n : Nat} (h : x.toNat = n) (f : Flags) :
    logical x f = writesZ (BitVec.ofNat 8 n) f := by
  rw [← h, BitVec.ofNat_toNat, BitVec.setWidth_eq]
  rfl

/-- Settles O34: each is the operation on the numbers of its operands. -/
theorem andOrXor : Obligations.AndOrXor := by
  refine ⟨?and, ?or, ?xor⟩
  case and => exact answers_of_fn fun x y f _ => logical_eq_writesZ (BitVec.toNat_and x y) f
  case or => exact answers_of_fn fun x y f _ => logical_eq_writesZ (BitVec.toNat_or x y) f
  case xor => exact answers_of_fn fun x y f _ => logical_eq_writesZ (BitVec.toNat_xor x y) f

/-- Settles O35: the complement of a byte is 255 less the byte, and TSTB is AND without the write of the destination. -/
theorem cpl1AndTstb : Obligations.Cpl1AndTstb := by
  refine ⟨?cpl1, ?tstb⟩
  case cpl1 => exact answers_of_fn fun _ _ f _ => logical_eq_writesZ BitVec.toNat_not f
  case tstb => exact answers_of_fn fun x y f _ => logical_with_write (x &&& y) f false

end Sys2Proof.Machine
end

section
/-! SUPPORT. The special instructions (44_special.md): the bits of the byte `SFLAG` saves, and the next state of each
instruction on one record. -/

namespace Sys2Proof.Machine

/-! ### `NOP` -/

theorem exec_nop (s : State) : exec .nop s = .next (s.endsAt s (s.pc + 1)) := rfl

/-- Settles O57: the word is the one NOP encodes to. -/
theorem nopOnlyAdvancesThePc : Obligations.NopOnlyAdvancesThePc :=
  ⟨decode_of_encode_eq rfl, exec_nop⟩

/-! ### `FREQ` -/

theorem exec_freq_of_defined {divn : BitVec 4} (s : State) (h : divnDefined divn = true) :
    exec (.freq divn) s = .next (s.endsAt { s with freqOut := divn } (s.pc + 1)) :=
  if_pos h

/-- Settles O58: the five ratios are the defined ones. -/
theorem freqSetsFreqOut : Obligations.FreqSetsFreqOut :=
  fun s divn h => exec_freq_of_defined s ((divnDefined_iff divn).2 h)

/-! ### `PMD` -/

/-- `PMD` is refused exactly to turn ROM mode on outside Test mode (44_special.md R274, log 12). -/
theorem exec_pmd (on : Bool) (s : State) :
    exec (.pmd on) s =
      if on = true ∧ s.testEn = false then .refused .pmdOnInNormalMode
      else .next (s.endsAt { s with romMode := on } (s.pc + 1)) := by
  rw [exec, execPmd]
  simp only [Bool.and_eq_true, Bool.not_eq_true']
  rfl

/-- Settles O59: the refusal needs both that the mode is turned on and that `TestEn` is low. -/
theorem pmdSwitchesRomMode : Obligations.PmdSwitchesRomMode := by
  intro s
  refine ⟨?off, fun ht => ?onInTest, fun ht => ?onInNormal⟩
  case off => rw [exec_pmd, if_neg (by simp)]
  case onInTest => rw [exec_pmd, if_neg (by simp [ht])]
  case onInNormal => rw [exec_pmd, if_pos ⟨rfl, ht⟩]

/-! ### `SFLAG` -/

section
variable (s : State)

/-- The high nibble of the saved byte, bit by bit (44_special.md R270): an append is read from its last part up. -/
theorem State.savedFlags_high_bits :
    s.savedFlags.getLsbD 7 = s.flags.c ∧ s.savedFlags.getLsbD 6 = (s.flags.c ^^ s.flags.v) ∧
      s.savedFlags.getLsbD 5 = decide (s.cnt = s.platform.stackDepth) ∧
      s.savedFlags.getLsbD 4 = decide (s.cnt = 0) := by
  simp only [State.savedFlags, State.stackFull, State.stackEmpty, beq_eq_decide, BitVec.getLsbD_append,
    BitVec.getLsbD_ofBool]
  simp

theorem State.savedFlags_low_nibble : s.savedFlags.extractLsb' 0 4 = Config.freeNibble s.draws := by
  rw [State.savedFlags, BitVec.extractLsb'_append_eq_right]

theorem exec_sflag : exec .sflag s = .next (s.endsAt
    { s with
      regs := s.regs.set .a s.savedFlags
      flags := ⟨s.flags.c, s.flags.v, Config.freeBit s.draws⟩
      draws := s.draws + 1 } (s.pc + 1)) := rfl

end

/-- Settles O55: the byte is `State.savedFlags`. -/
theorem sflagSavesTheFlags : Obligations.SflagSavesTheFlags := by
  intro s
  obtain ⟨hcarry, hsign, hfull, hempty⟩ := s.savedFlags_high_bits
  exact ⟨s.savedFlags, exec_sflag s, hcarry, hsign, hfull, hempty, s.savedFlags_low_nibble⟩

/-! ### `HALT` -/

section
variable {s : State}

/-- A condition active in the control view: Halt mode is not entered (44_special.md R272). -/
theorem exec_halt_of_wakeful (h : s.Wakeful s.statCtl) : exec .halt s = .next (s.endsAt s (s.pc + 1)) :=
  if_pos (State.wakes_iff.2 h)

/-- No condition active in the control view: the core halts, and only one that `stat` has just received lets a free bit
decide whether it is held (60_exceptions.md R345, log 20). -/
theorem exec_halt_of_not_wakeful (h : ¬ s.Wakeful s.statCtl) :
    exec .halt s =
      if s.wakeUpJustSet then
        .next (s.endsAt { s with halted := true, haltHeld := Config.freeBit s.draws, draws := s.draws + 1 } (s.pc + 1))
      else .next (s.endsAt { s with halted := true, haltHeld := false } (s.pc + 1)) :=
  if_neg (mt State.wakes_iff.1 h)

end

/-- Settles O60: the model's two tests, on the control view and on what has just been set, are those of the statement. -/
theorem haltEntersHaltMode : Obligations.HaltEntersHaltMode := by
  intro s
  refine ⟨exec_halt_of_wakeful, fun hw hset => ?unheld, fun hw hset => ?freeHold⟩
  case unheld => rw [exec_halt_of_not_wakeful hw, if_neg (mt State.wakeUpJustSet_iff.1 hset)]
  case freeHold => rw [exec_halt_of_not_wakeful hw, if_pos (State.wakeUpJustSet_iff.2 hset)]

end Sys2Proof.Machine
end

section
/-! SUPPORT. Two instructions that the aliases join (45_aliases.md): a compare and the jump that reads its flags, `SFLAG` and
the `SHL` that restores the flags it saved. -/

namespace Sys2Proof.Machine

/-! ### A compare and a jump (R298) -/

/-- An instruction that completes was forbidden by no multiplication, so its operation answers. -/
theorem Answers.flags_of_next {op : AluOp} {g : AluFn} (ha : Answers op g) {form : AluForm} {i : Instr} {s u : State}
    (hi : Instr.ofAlu op form = some i) (h : exec i s = .next u) :
    u.flags = (g (s.op1 form) (s.op2 form) s.flags (s.draws + s.operandDraws form)).flags := by
  have hz : s.HazardFree form.sources := by
    rw [exec_ofAlu hi] at h
    exact (runAlu_next h).1
  rw [← Host.Outcome.next.inj ((ha form i s hi hz).symm.trans h)]
  rfl

/-- A jump to an immediate address always completes; what its condition means decides where. -/
theorem exec_jcc_abs_of_holds_iff {u : State} {c : Cond} {p : Prop} [Decidable p] (h : u.Holds c ↔ p) (tgt : Word) :
    exec (.jcc c (.abs tgt)) u = .next (u.endsAt u (if p then tgt else u.pc + 1)) := by
  rw [exec_jcc_completes c (u.hazardFree_abs tgt), if_congr (State.condition_iff.trans h) rfl rfl]
  rfl

/-- The flags read as the order of `d` and `s`: C says at most, V less, Z equal (42_arith.md R213). -/
structure Flags.Orders {α : Type} [LinearOrder α] (f : Flags) (d s : α) : Prop where
  carry : f.c = true ↔ d ≤ s
  overflow : f.v = true ↔ d < s
  zero : f.z = true ↔ d = s

section
variable {α : Type} [LinearOrder α]

theorem compareOut_flags_orders {key : Byte → α} (hkey : ∀ x y, key x = key y ↔ x = y) (d s : Byte) :
    (compareOut d s (decide (key s < key d)) (decide (key d < key s))).flags.Orders (key d) (key s) where
  carry := by simp [compareOut]
  overflow := decide_eq_true_iff
  zero := beq_iff_eq.trans (hkey d s).symm

/-- The six jumps on flags that order `d` and `x`: those on a set flag read it, those on a clear one its negation. -/
theorem exec_jumps_of_orders {u : State} {d x : α} (h : u.flags.Orders d x) (tgt : Word) :
    exec (.jccAbs tgt) u = .next (u.endsAt u (if x < d then tgt else u.pc + 1)) ∧
      exec (.jvcAbs tgt) u = .next (u.endsAt u (if x ≤ d then tgt else u.pc + 1)) ∧
      exec (.jzcAbs tgt) u = .next (u.endsAt u (if d ≠ x then tgt else u.pc + 1)) ∧
      exec (.jcsAbs tgt) u = .next (u.endsAt u (if d ≤ x then tgt else u.pc + 1)) ∧
      exec (.jvsAbs tgt) u = .next (u.endsAt u (if d < x then tgt else u.pc + 1)) ∧
      exec (.jzsAbs tgt) u = .next (u.endsAt u (if d = x then tgt else u.pc + 1)) := by
  have hcc : u.Holds .cc ↔ x < d := Bool.eq_false_iff.trans ((not_congr h.carry).trans not_le)
  have hvc : u.Holds .vc ↔ x ≤ d := Bool.eq_false_iff.trans ((not_congr h.overflow).trans not_lt)
  have hzc : u.Holds .zc ↔ d ≠ x := Bool.eq_false_iff.trans (not_congr h.zero)
  exact ⟨exec_jcc_abs_of_holds_iff hcc tgt, exec_jcc_abs_of_holds_iff hvc tgt, exec_jcc_abs_of_holds_iff hzc tgt,
    exec_jcc_abs_of_holds_iff (c := .cs) h.carry tgt, exec_jcc_abs_of_holds_iff (c := .vs) h.overflow tgt,
    exec_jcc_abs_of_holds_iff (c := .zs) h.zero tgt⟩

end

/-- Settles O46: the flags after a compare order the operands, as natural numbers or as integers, and a jump reads them. -/
theorem compareThenJump : Obligations.CompareThenJump := by
  intro form i s u tgt h
  refine ⟨fun hi => ?cmp, fun hi => ?cmpa⟩
  case cmp =>
    have hflags : u.flags.Orders (s.op2 form).toNat (s.op1 form).toNat := by
      rw [cmpAndCmpa.1.flags_of_next hi h]
      exact compareOut_flags_orders (fun _ _ => BitVec.toNat_inj) _ _
    exact exec_jumps_of_orders hflags tgt
  case cmpa =>
    have hflags : u.flags.Orders (s.op2 form).toInt (s.op1 form).toInt := by
      rw [cmpAndCmpa.2.flags_of_next hi h]
      exact compareOut_flags_orders (fun _ _ => BitVec.toInt_inj) _ _
    exact exec_jumps_of_orders hflags tgt

/-! ### `SFLAG` and `RFLAG` (R297) -/

theorem reg_a_of_exec_sflag {s u : State} (h : exec .sflag s = .next u) : u.reg .a = s.savedFlags := by
  rw [exec_sflag] at h
  rw [← Host.Outcome.next.inj h]
  exact Regs.get_set_same s.regs .a s.savedFlags

/-- The bit shifted out goes to C, its difference from the new bit 7 to V (43_logic_shift.md R245, log 25). -/
theorem carry_overflow_of_exec_shlReg2 {res reg : Reg} {v t : State} (h : exec (.shlReg2 res reg) v = .next t) :
    t.flags.c = (v.reg reg).getLsbD 7 ∧ t.flags.v = ((v.reg reg).getLsbD 7 ^^ (v.reg reg).getLsbD 6) := by
  obtain rfl := exec_ofAlu_next (op := .shl) (form := .regs res reg .a) rfl h
  exact ⟨rfl, rfl⟩

/-- Settles O56: bit 6 of the saved byte is C xor V, so that its difference from bit 7 is V. -/
theorem savedFlagsAreRestored : Obligations.SavedFlagsAreRestored := by
  intro s u v t reg hsave hreg hshift
  have hbyte : v.reg reg = s.savedFlags := hreg.trans (reg_a_of_exec_sflag hsave)
  obtain ⟨hbit7, hbit6, -, -⟩ := s.savedFlags_high_bits
  obtain ⟨hc, hv⟩ := carry_overflow_of_exec_shlReg2 hshift
  rw [hbyte, hbit7] at hc hv
  rw [hbit6, ← Bool.xor_assoc, Bool.xor_self, Bool.false_xor] at hv
  exact ⟨hc, hv⟩

end Sys2Proof.Machine
end

section
/-! SUPPORT. Exceptions and the boundary of a step (60_exceptions.md): reset, the request lines, which request is taken,
interrupt entry, Halt mode and the wake-up from it, Test mode and ROM mode; and Z after an ALU-class instruction (R333). -/

namespace Sys2Proof.Machine

/-! ### Reset (R312) -/

theorem step_of_reset {s : State} (h : s.nextInput.reset = true) : step s = .next s.takeInput.resetEvent :=
  if_pos h

/-- Settles O11: what a reset keeps, taking the input keeps as well, but for the shared locations of data memory. -/
theorem resetEventClearsTheCore : Obligations.ResetEventClearsTheCore := by
  intro s h
  have hlevels : s.takeInput.resetEvent.levels = List.replicate s.platform.stackDepth 0 := by
    rw [State.resetEvent_levels, State.takeInput_platform]
  have hbytes : ∀ a : Word, s.kindAt a ≠ .shared → s.takeInput.resetEvent.byteAt a = s.byteAt a :=
    fun a ha => (State.byteAt_congr rfl a).trans (State.byteAt_takeInput ha)
  exact ⟨_, step_of_reset h, Regs.get_reset, rfl, rfl, hlevels, rfl, rfl, rfl, rfl, rfl, rfl, s.takeInput_pm,
    s.takeInput_platform, s.takeInput_inputs, hbytes⟩

/-! ### The request lines (R315, R316) -/

/-- The bits of the mask: an append is read from its last part up. -/
theorem Pins.getLsbD_mask (p : Pins) :
    p.mask.getLsbD 4 = p.int2 ∧ p.mask.getLsbD 3 = p.int1 ∧ p.mask.getLsbD 2 = p.int0 ∧ p.mask.getLsbD 1 = p.ev1 ∧
      p.mask.getLsbD 0 = p.ev0 ∧ p.mask.getLsbD 5 = false ∧ p.mask.getLsbD 6 = false ∧ p.mask.getLsbD 7 = false := by
  simp only [Pins.mask, BitVec.getLsbD_append, BitVec.getLsbD_ofBool]
  simp

theorem Pins.mask_none : (Pins.mk false false false false false).mask = 0#8 := by decide

/-- With no line asserted the boundary changes nothing. -/
theorem State.samplePins_none (s : State) : s.samplePins ⟨false, false, false, false, false⟩ = s := by
  have hstat : s.regs.set .stat s.regs.stat = s.regs := Regs.set_get s.regs .stat
  have hheld : (s.haltHeld && !(Pins.mk false false false false false).any) = s.haltHeld := Bool.and_true _
  rw [State.samplePins, Pins.mask_none, BitVec.or_zero, BitVec.or_zero, hstat, hheld]

/-- The lines reach `stat` alone of the registers. -/
theorem State.reg_samplePins_other (s : State) (p : Pins) {r : Reg} (h : r ≠ .stat) :
    (s.samplePins p).reg r = s.reg r :=
  Regs.get_set_other h

/-- Settles O12: both views take the bits of the mask. -/
theorem pinsSetTheirBits : Obligations.PinsSetTheirBits := by
  intro s p
  obtain ⟨h4, h3, h2, h1, h0, h5, h6, h7⟩ := p.getLsbD_mask
  refine ⟨fun v w hvw => ?_, fun r => s.reg_samplePins_other p, _, _, rfl⟩
  have hw : w = v ||| p.mask := by
    obtain ⟨rfl, rfl⟩ | ⟨rfl, rfl⟩ := hvw <;> rfl
  simp only [hw, BitVec.getLsbD_or, h4, h3, h2, h1, h0, h5, h6, h7, Bool.or_false, and_self]

/-! ### The request that is taken (R321 to R323) -/

theorem State.stackFull_iff {s : State} : s.stackFull = true ↔ s.cnt = s.platform.stackDepth := beq_iff_eq

/-- Settles O13: level 0 has no enable of its own. -/
theorem maskedRequests : Obligations.MaskedRequests := by
  refine ⟨fun s => ⟨?level0, rfl, rfl⟩, fun _ => State.stackFull_iff, fun _ _ => State.pending_eq_some⟩
  case level0 => rw [State.request, Level.enabled, Bool.and_true, Level.requestBit]

/-- The four outcomes of the priority logic. -/
theorem State.pending_cases (s : State) :
    s.request s.statCtl .level0 = true ∧ s.pending = some .level0 ∨
      s.request s.statCtl .level0 = false ∧ s.request s.statCtl .level1 = true ∧ s.pending = some .level1 ∨
      s.request s.statCtl .level0 = false ∧ s.request s.statCtl .level1 = false ∧
        s.request s.statCtl .level2 = true ∧ s.pending = some .level2 ∨
      s.request s.statCtl .level0 = false ∧ s.request s.statCtl .level1 = false ∧
        s.request s.statCtl .level2 = false ∧ s.pending = none := by
  unfold State.pending
  cases s.request s.statCtl .level0 with
  | true => simp
  | false =>
    cases s.request s.statCtl .level1 with
    | true => simp
    | false => cases s.request s.statCtl .level2 <;> simp

theorem State.request_of_full {s : State} (h : s.cnt = s.platform.stackDepth) (ctl : Byte) (k : Level) :
    s.request ctl k = false :=
  Bool.eq_false_iff.2 fun hk => State.request_not_full hk h

/-- Settles O14: in each of the four outcomes the clauses are read off. -/
theorem pendingInterruptHasTheHighestPriority : Obligations.PendingInterruptHasTheHighestPriority := by
  intro s
  have hfull : s.cnt = s.platform.stackDepth → s.pending = none := fun h =>
    State.pending_eq_none.2 (State.request_of_full h _)
  obtain ⟨h0, hp⟩ | ⟨h0, h1, hp⟩ | ⟨h0, h1, h2, hp⟩ | ⟨h0, h1, h2, hp⟩ := s.pending_cases
  · refine ⟨?_, ?_, ?_, State.pending_eq_none, hfull⟩ <;> simp [hp, h0]
  · refine ⟨?_, ?_, ?_, State.pending_eq_none, hfull⟩ <;> simp [hp, h0, h1]
  · refine ⟨?_, ?_, ?_, State.pending_eq_none, hfull⟩ <;> simp [hp, h0, h1, h2]
  · refine ⟨?_, ?_, ?_, State.pending_eq_none, hfull⟩ <;> simp [hp, h0, h1, h2]

/-! ### Halt mode at the boundary (R330, R345) -/

/-- A halted core wakes for an event or for the interrupt that would be taken. -/
theorem State.wakeful_iff_pending {s : State} :
    s.Wakeful s.statCtl ↔ s.statCtl.getLsbD 0 = true ∨ s.statCtl.getLsbD 1 = true ∨ s.pending ≠ none := by
  have hpending : (∃ k, s.request s.statCtl k = true) ↔ s.pending ≠ none := by
    simp [State.pending_eq_none]
  rw [State.Wakeful, hpending]

theorem State.staysHalted_iff {s : State} :
    s.staysHalted = true ↔ s.halted = true ∧ (s.haltHeld = true ∨ ¬ s.Wakeful s.statCtl) := by
  rw [State.staysHalted, Bool.and_eq_true, Bool.or_eq_true, Bool.not_eq_true', ← Bool.not_eq_true, State.wakes_iff]

/-- A wake-up condition ends Halt mode, unless the core is held. -/
theorem State.staysHalted_of_wakeful {s : State} (hheld : s.halted = true → s.haltHeld = false)
    (hw : s.Wakeful s.statCtl) : s.staysHalted = false := by
  rw [Bool.eq_false_iff, ne_eq, State.staysHalted_iff]
  rintro ⟨hhalted, hh | hsleep⟩
  · exact Bool.eq_false_iff.1 (hheld hhalted) hh
  · exact hsleep hw

/-- What a boundary goes on to do does not depend on having been halted. -/
@[simp] theorem State.leaveHalt_pending (s : State) : s.leaveHalt.pending = s.pending := by
  unfold State.leaveHalt; split <;> rfl

/-- The entry leaves Halt mode itself. -/
@[simp] theorem State.leaveHalt_interruptEntry (s : State) (k : Level) :
    s.leaveHalt.interruptEntry k = s.interruptEntry k := by
  unfold State.leaveHalt; split <;> rfl

theorem State.leaveHalt_of_halted {s : State} (h : s.halted = true) (hheld : s.haltHeld = false) :
    s.leaveHalt = { s with halted := false } := by
  rw [State.leaveHalt, if_pos h, ← hheld]

theorem step_stayHalted {s : State} (hs : s.RunsThisStep) (h : s.atBoundary.staysHalted = true) :
    step s = .next s.atBoundary.stayHalted := by
  rw [step_runs hs, State.runBoundary, if_pos h]

/-- Settles O16: without an event and without a pending interrupt there is no wake-up condition. -/
theorem haltedCoreStaysHalted : Obligations.HaltedCoreStaysHalted := by
  intro s hs hhalted hsleep
  refine step_stayHalted hs (State.staysHalted_iff.2 ⟨hhalted, ?_⟩)
  obtain ⟨hev0, hev1, hpending⟩ | hheld := hsleep
  · rw [State.wakeful_iff_pending, hev0, hev1, hpending]
    exact .inr (by simp)
  · exact .inl hheld

/-! ### Interrupt entry (R323 to R327) -/

/-- A pending interrupt is entered, from a running core or as a wake-up; in Test mode the shift register is then loaded. -/
theorem step_interruptEntry {s : State} {k : Level} (hs : s.RunsThisStep)
    (hheld : s.atBoundary.halted = true → s.atBoundary.haltHeld = false) (hk : s.atBoundary.pending = some k) :
    step s = .next (s.atBoundary.interruptEntry k).capture := by
  have hwakes : s.atBoundary.Wakeful s.atBoundary.statCtl := .inr (.inr ⟨k, State.pending_eq_some hk⟩)
  rw [step_runs hs, State.runBoundary, State.staysHalted_of_wakeful hheld hwakes, State.leaveHalt_pending, hk,
    ← State.leaveHalt_interruptEntry]
  rfl

/-- Settles O15. -/
theorem interruptEntrySavesAndVectors : Obligations.InterruptEntrySavesAndVectors := by
  intro s k hs hnormal hheld hk
  have htest : (s.atBoundary.interruptEntry k).testEn = false := s.atBoundary_testEn.trans hnormal
  rw [step_interruptEntry hs hheld hk, State.capture_normal htest, ← s.atBoundary_pc, ← s.atBoundary_levels,
    ← s.atBoundary_cnt, ← s.atBoundary_platform]
  cases k <;> rfl

/-- Of the registers the boundary and the entry change `stat` alone. -/
theorem State.reg_interruptEntry_atBoundary (s : State) (k : Level) {r : Reg} (h : r ≠ .stat) :
    (s.atBoundary.interruptEntry k).reg r = s.reg r :=
  calc
    _ = s.atBoundary.reg r := Regs.get_set_other h
    _ = s.takeInput.reg r := State.reg_samplePins_other _ _ h
    _ = s.reg r := congrArg (Regs.get · r) s.takeInput_regs

/-! ### Running the instruction (R330) -/

theorem State.runInstruction_of_decode {s : State} {w : IWord} {i : Instr} (hw : s.instructionWord = some w)
    (hi : decode w = some i) : s.runInstruction = captureOutcome (exec i s) := by
  simp only [State.runInstruction, hw, hi]

theorem State.nextInput_of_inputs_nil {s : State} (h : s.inputs = []) : s.nextInput = .idle := by
  rw [State.nextInput, h, List.headD_nil]

theorem State.takeInput_dm_of_no_writes {s : State} (h : s.nextInput.busWrites = []) : s.takeInput.dm = s.dm := by
  rw [State.takeInput_dm, h, List.foldl_nil]

/-- An exhausted schedule is idle: the boundary lowers `TestEn` and does nothing else (log 1). -/
theorem State.atBoundary_of_inputs_nil {s : State} (h : s.inputs = []) : s.atBoundary = { s with testEn := false } := by
  have hidle := State.nextInput_of_inputs_nil h
  have htake : s.takeInput = { s with testEn := false } := by
    obtain ⟨d, hd, ht⟩ := State.takeInput_normal (s := s) (congrArg StepInput.testEn hidle)
    rw [ht, hd, State.takeInput_dm_of_no_writes (congrArg StepInput.busWrites hidle), h, List.tail_nil, ← h]
  rw [State.atBoundary, hidle, htake]
  exact State.samplePins_none _

/-- Settles O6: the word that is fetched decodes, and in Normal mode nothing is captured. -/
theorem stepRunsTheDecodedInstruction : Obligations.StepRunsTheDecodedInstruction := by
  refine ⟨?runs, ?idle, fun s hnormal => ⟨State.instructionWord_atBoundary_normal hnormal, s.atBoundary_pc⟩⟩
  case runs =>
    intro s w i hs hrun hpending hrom hw hi
    rw [step_runInstruction hs hrun hpending hrom, State.runInstruction_of_decode hw hi]
    exact ⟨rfl, fun hnormal => captureOutcome_exec (s.atBoundary_testEn.trans hnormal)⟩
  case idle =>
    intro s h
    have hidle := State.nextInput_of_inputs_nil h
    exact ⟨⟨congrArg StepInput.reset hidle, .inl (congrArg StepInput.testEn hidle)⟩, State.atBoundary_of_inputs_nil h⟩

/-- Settles O17: the event is the wake-up condition, and the boundary then runs the word at the pc. -/
theorem eventWakesTheCore : Obligations.EventWakesTheCore := by
  intro s w i hs hnormal hhalted hheld hrom hevent hpending hw hi
  have hwakes : s.atBoundary.Wakeful s.atBoundary.statCtl := hevent.imp_right .inl
  have hword : ({ s.atBoundary with halted := false } : State).instructionWord = some w :=
    (State.instructionWord_atBoundary_normal hnormal).trans hw
  rw [step_runs hs, State.runBoundary, State.staysHalted_of_wakeful (fun _ => hheld) hwakes,
    State.leaveHalt_pending, hpending, State.leaveHalt_of_halted hhalted hheld]
  calc
    _ = ({ s.atBoundary with halted := false } : State).runInstruction := if_neg (Bool.eq_false_iff.1 hrom)
    _ = _ := State.runInstruction_of_decode hword hi
    _ = _ := captureOutcome_exec (s.atBoundary_testEn.trans hnormal)

/-! ### Test mode (R350 to R352) -/

theorem step_shiftTest {s : State} (hreset : s.nextInput.reset = false) (htest : s.nextInput.testEn = true)
    (hshift : s.nextInput.testShift = true) : step s = .next (s.takeInput.shiftTest s.nextInput.testIn) := by
  simp [step, hreset, htest, hshift]

/-- While Test mode lasts nothing is captured at the boundary. -/
theorem State.latchTest_of_high {s : State} (h : s.testEn = true) : s.latchTest true = s := by
  rw [State.latchTest, h]
  show { s with testEn := true } = s
  rw [← h]

/-- While Test mode lasts taking the input changes the schedule and data memory alone. -/
theorem State.takeInput_test {s : State} (hin : s.nextInput.testEn = true) (h : s.testEn = true) :
    s.takeInput = { s with inputs := s.inputs.tail, dm := s.takeInput.dm } := by
  obtain ⟨d, hd, hs⟩ := s.takeInput_eq
  rw [State.takeInput_dm, ← hd, hs, hin]
  exact State.latchTest_of_high h

theorem State.capture_test {s : State} (h : s.testEn = true) :
    s.capture = { s with testReg := Config.freeCapture s.draws, draws := s.draws + 1 } :=
  if_pos h

theorem State.instructionWord_atBoundary_test {s : State} (hin : s.nextInput.testEn = true) (h : s.testEn = true) :
    s.atBoundary.instructionWord = some s.testReg := by
  rw [State.instructionWord, State.atBoundary_testEn, if_pos hin, State.atBoundary_testReg, State.takeInput_test hin h]

/-- A shift cycle of R352, nothing due on the bus. -/
theorem step_shift_cycle {s : State} (hreset : s.nextInput.reset = false) (hin : s.nextInput.testEn = true)
    (hshift : s.nextInput.testShift = true) (h : s.testEn = true) (hbus : s.nextInput.busWrites = []) :
    step s = .next
      { s with
        inputs := s.inputs.tail
        testReg := BitVec.ofBool s.nextInput.testIn ++ s.testReg.extractLsb' 1 21 } := by
  rw [step_shiftTest hreset hin hshift, State.takeInput_test hin h, State.takeInput_dm_of_no_writes hbus]
  rfl

/-- An execute cycle of R351: the word shifted in is run, and the shift register loaded. -/
theorem step_execute_cycle {s t : State} {i : Instr} (hin : s.nextInput.testEn = true) (h : s.testEn = true)
    (hs : s.RunsThisStep) (hrun : s.atBoundary.halted = false) (hpending : s.atBoundary.pending = none)
    (hrom : s.atBoundary.romMode = false) (hi : decode s.testReg = some i) (hexec : exec i s.atBoundary = .next t) :
    step s = .next { t with testReg := Config.freeCapture t.draws, draws := t.draws + 1 } := by
  have ht : t.testEn = true := ((exec_same hexec).testEn.trans s.atBoundary_testEn).trans hin
  rw [step_runInstruction hs hrun hpending hrom,
    State.runInstruction_of_decode (State.instructionWord_atBoundary_test hin h) hi, hexec, captureOutcome,
    State.capture_test ht]

/-! ### ROM mode (R353) -/

theorem step_romCycle {s : State} (hs : s.RunsThisStep) (hrun : s.atBoundary.halted = false)
    (hpending : s.atBoundary.pending = none) (hrom : s.atBoundary.romMode = true) :
    step s = s.atBoundary.romCycle := by
  rw [step_runs hs, State.runBoundary, State.staysHalted_of_running hrun, State.leaveHalt_of_running hrun, hpending,
    hrom]
  rfl

theorem State.romCycle_normal {s : State} (h : s.testEn = false) : s.romCycle = .refused .romModeOutsideTest := by
  simp [State.romCycle, h]

/-- The captured word goes to the shift register; that of `PMD #0` alone ends the mode. -/
theorem State.romCycle_test {s : State} {w : IWord} (h : s.testEn = true) (hw : Memory.lookup s.pm s.pc.toNat = some w) :
    s.romCycle =
      .next (s.endsAt { s with testReg := w, romMode := decide (decode w ≠ some (.pmd false)) } (s.pc + 1)) := by
  simp only [State.romCycle, h, hw]
  rfl

/-- An execute cycle of ROM mode with `TestEn` high. -/
theorem step_rom_capture {s : State} {w : IWord} (hs : s.RunsThisStep) (hrun : s.atBoundary.halted = false)
    (hpending : s.atBoundary.pending = none) (hrom : s.atBoundary.romMode = true) (hin : s.nextInput.testEn = true)
    (hw : Memory.lookup s.pm s.pc.toNat = some w) :
    step s = .next
      (s.atBoundary.endsAt { s.atBoundary with testReg := w, romMode := decide (decode w ≠ some (.pmd false)) }
        (s.pc + 1)) := by
  have hlookup : Memory.lookup s.atBoundary.pm s.atBoundary.pc.toNat = some w := by
    rw [State.atBoundary_pm, State.atBoundary_pc, hw]
  rw [step_romCycle hs hrun hpending hrom, State.romCycle_test (s.atBoundary_testEn.trans hin) hlookup,
    ← s.atBoundary_pc]

/-- Settles O19: the shift cycle, the execute cycle, the cycle of ROM mode, the interrupt and the pins, one case each. -/
theorem testAndRomCycles : Obligations.TestAndRomCycles := by
  refine ⟨fun s => step_shift_cycle, fun s hin h => ⟨State.instructionWord_atBoundary_test hin h, ?execute⟩, ?rom,
    ?interrupt, ?pins⟩
  case execute =>
    intro hs hrun hpending hrom i t
    exact step_execute_cycle hin h hs hrun hpending hrom
  case rom =>
    intro s hs hrun hpending hrom
    refine ⟨fun hnormal => ?_, fun hin w hw => ⟨fun hother => ?_, fun hpmd => ?_⟩⟩
    · rw [step_romCycle hs hrun hpending hrom, State.romCycle_normal (s.atBoundary_testEn.trans hnormal)]
    · rw [step_rom_capture hs hrun hpending hrom hin hw, decide_eq_true hother, ← hrom]
    · rw [step_rom_capture hs hrun hpending hrom hin hw, decide_eq_false (not_not.2 hpmd)]
  case interrupt =>
    intro s k hs hin hheld hk
    have htest : (s.atBoundary.interruptEntry k).testEn = true := s.atBoundary_testEn.trans hin
    have hlevels : (s.atBoundary.interruptEntry k).levels = (s.pc :: s.levels).take s.platform.stackDepth := by
      rw [State.interruptEntry_levels, State.atBoundary_pc, State.atBoundary_levels, State.atBoundary_platform]
    refine ⟨_, step_interruptEntry hs hheld hk, ?_⟩
    rw [State.capture_test htest]
    refine ⟨hlevels, congrArg (· + 1) s.atBoundary_cnt, rfl, rfl, ?vector, rfl, s.atBoundary_romMode,
      fun _ => s.reg_interruptEntry_atBoundary k, rfl⟩
    case vector => cases k <;> rfl
  case pins =>
    exact fun s => ⟨rfl, rfl, rfl, rfl, fun hnormal => if_neg (Bool.eq_false_iff.1 hnormal), fun htest => if_pos htest⟩

/-! ### Z after an ALU-class instruction (R333) -/

/-- Two bytes are equal exactly if their difference, which a compare gives to `a`, is 0. -/
theorem compareBytes_zero_flag (d s : Byte) (greater : Bool) :
    (compareBytes d s greater).flags.z = ((compareBytes d s greater).acc == 0) := by
  have hdiff : d = s ↔ s - d = 0 := by bv_omega
  exact Bool.coe_iff_coe.1 (beq_iff_eq.trans (hdiff.trans beq_iff_eq.symm))

theorem adderFreeV_zero_flag (x y : Byte) (cin corner : Bool) (draws : Nat) :
    (adderFreeV x y cin corner draws).flags.z = ((adderFreeV x y cin corner draws).acc == 0) := by
  cases corner <;> rfl

/-- Every operation but the multiplications gives Z from the value for `a`. -/
theorem aluFn_zero_flag {op : AluOp} (hmul : op ≠ .mul) (hmula : op ≠ .mula) (x y : Byte) (f : Flags) (n : Nat) :
    (aluFn op x y f n).flags.z = ((aluFn op x y f n).acc == 0) := by
  cases op
  case mul => exact absurd rfl hmul
  case mula => exact absurd rfl hmula
  case cmp => exact compareBytes_zero_flag _ _ _
  case cmpa => exact compareBytes_zero_flag _ _ _
  case incc => exact adderFreeV_zero_flag _ _ _ _ _
  case decc => exact adderFreeV_zero_flag _ _ _ _ _
  case cpl2c => exact adderFreeV_zero_flag _ _ _ _ _
  all_goals rfl

/-- Settles O23: the value for `a` is written after the destination, so `a` holds it. -/
theorem zeroFlagFollowsTheAccumulator : Obligations.ZeroFlagFollowsTheAccumulator := by
  intro op form i s t hmul hmula hi h
  obtain rfl := exec_ofAlu_next hi h
  rw [State.reg_a_afterAlu]
  exact (Bool.coe_iff_coe.2 (aluFn_zero_flag hmul hmula _ _ _ _)).trans beq_iff_eq

end Sys2Proof.Machine
end

section
/-! Family 70_reset_and_hazards.md: the forbidden successors of a multiplication (R378, D16). -/

namespace Sys2Proof.Machine

/-! ### The registers an address is formed from -/

theorem EAddr.index_mem_sources {d : Reg} {ix : Ix} {ea : EAddr} (hd : d = ix.lo ∨ d = ix.hi)
    (hea : (∃ o, ea = .indexed ix o) ∨ (∃ o, ea = .postinc ix o) ∨ (∃ f, ea = .predec ix f) ∨ ea = .r3 ix) :
    d ∈ ea.sources := by
  obtain ⟨o, rfl⟩ | ⟨o, rfl⟩ | ⟨f, rfl⟩ | rfl := hea <;> obtain rfl | rfl := hd <;> simp [EAddr.sources]

theorem EAddr.r3_mem_sources (ix : Ix) : Reg.r3 ∈ (EAddr.r3 ix).sources := by
  simp [EAddr.sources]

theorem mem_ipRegs_iff {d : Reg} : d ∈ ipRegs ↔ d = .ipl ∨ d = .iph := by
  simp [ipRegs]

/-! ### What the hazard refuses -/

section
variable {s : State}

theorem exec_store_of_hazard {ea : EAddr} (reg : Reg) (hz : s.hazard ea.sources = true) :
    exec (.store reg ea) s = .refused .multiplierHazard :=
  (exec_store reg ea s).trans (if_pos hz)

/-- The check comes before the condition, so the jump is refused taken or not. -/
theorem exec_jcc_of_hazard {t : Target} (c : Cond) (hz : s.hazard t.sources = true) :
    exec (.jcc c t) s = .refused .multiplierHazard :=
  (exec_jcc c t s).trans (if_pos hz)

theorem exec_call_of_hazard {t : Target} (hz : s.hazard t.sources = true) :
    exec (.call t) s = .refused .multiplierHazard :=
  (exec_call t s).trans (if_pos hz)

theorem exec_calls_of_hazard {t : Target} (hz : s.hazard t.sources = true) :
    exec (.calls t) s = .refused .multiplierHazard :=
  (exec_calls t s).trans (if_pos hz)

end

/-- Settles O44: the register the multiplication wrote is one that the address, or the target, is formed from. -/
theorem multiplierHazardIsRefused : Obligations.MultiplierHazardIsRefused := by
  intro s d hd
  have hazard_of_mem {rs : List Reg} (hmem : d ∈ rs) : s.hazard rs = true := State.hazard_eq_true.2 ⟨d, hd, hmem⟩
  refine ⟨fun ix ea h => ?operand, fun h => ?ip⟩
  case operand =>
    have hsource : d ∈ ea.sources := by
      obtain ⟨hbyte, hea⟩ | ⟨rfl, rfl⟩ := h
      · exact EAddr.index_mem_sources hbyte hea
      · exact EAddr.r3_mem_sources ix
    have hz : s.hazard ea.sources = true := hazard_of_mem hsource
    exact ⟨fun op reg i hi => (exec_ofAlu hi s).trans (runAlu_of_hazard hz), fun reg => exec_store_of_hazard reg hz⟩
  case ip =>
    have hz : s.hazard ipRegs = true := hazard_of_mem (mem_ipRegs_iff.2 h)
    exact ⟨fun c => exec_jcc_of_hazard c hz, exec_call_of_hazard (t := .ip) hz, exec_calls_of_hazard (t := .ip) hz,
      exec_push_of_hazard hz⟩

end Sys2Proof.Machine
end
